-- ==== Sys2Proof/Word.lean ====
section
/-! DEFINITION. The word type, tables of a fixed number of entries, one-of-each-key records, and the
plain arithmetic of section 6.2 of spec/00_scope.md (clamping, saturating counts). -/

namespace Sys2Proof

/-- A 32-bit word: an argument, a reply's data, an extension word, a store word (R57). -/
abbrev Word := BitVec 32

/-- `min` and `max` put together: "a value clamped to [a, b]" of section 6.2. -/
def clamp (lo hi v : Nat) : Nat := if v < lo then lo else if hi < v then hi else v

/-- A count raised by `d` that "saturates" at `top` (section 6.2). -/
def satAdd (top v d : Nat) : Nat := min top (v + d)

/-- A table of exactly `n` entries, numbered from 0. The length travels with the data, so no later
proof has to show it again. -/
structure Table (α : Type) (n : Nat) where
  cells : List α
  size  : cells.length = n
  deriving DecidableEq, Repr

/-- The table whose every entry is `a`. -/
def Table.replicate {α : Type} (n : Nat) (a : α) : Table α n := ⟨List.replicate n a, by simp⟩

/-- The entry numbered `i`. -/
def Table.get {α : Type} {n : Nat} (t : Table α n) (i : Fin n) : α :=
  t.cells[i.val]'(by rw [t.size]; exact i.isLt)

/-- The table with the entry numbered `i` replaced. -/
def Table.set {α : Type} {n : Nat} (t : Table α n) (i : Fin n) (a : α) : Table α n :=
  ⟨t.cells.set i.val a, by simp [t.size]⟩

/-- The table with the entry numbered `i` changed by `f`. -/
def Table.modify {α : Type} {n : Nat} (t : Table α n) (i : Fin n) (f : α → α) : Table α n :=
  t.set i (f (t.get i))

/-- The table with every entry changed by `f`. -/
def Table.map {α β : Type} {n : Nat} (f : α → β) (t : Table α n) : Table β n :=
  ⟨t.cells.map f, by simp [t.size]⟩

/-- The table whose entry numbered `i` is `f i`. -/
def Table.tabulate {α : Type} {n : Nat} (f : Fin n → α) : Table α n :=
  ⟨(List.finRange n).map f, by simp⟩

/-- The least number whose entry passes the test. -/
def Table.findIx {α : Type} {n : Nat} (t : Table α n) (p : α → Bool) : Option (Fin n) :=
  (List.finRange n).find? (fun i => p (t.get i))

/-- How many entries pass the test. -/
def Table.countIx {α : Type} {n : Nat} (t : Table α n) (p : α → Bool) : Nat :=
  t.cells.countP p

end Sys2Proof
end

