-- ==== Sys2Proof/Config.lean ====
section
/-! DEFINITION. What the spec leaves open, as constants without a body, and the figures it fixes for
every part. -/

namespace Sys2Proof.Config

/-- FREE VALUE (log 4). A store word that no load run has written since power-on "holds no defined
value" (R57): the word `w` of store block `b`, after the power-on numbered `powerOn`. -/
opaque unwrittenWord (powerOn b w : Nat) : Word

/-- FREE VALUE (log 5). How many data words of a stripe block had gone out when its send is cut: "the
words already out" (R183) depend on link time, which no event measures. A number above 1024 stands for
all 1024. The argument numbers the occasion. -/
opaque wordsOut (occasion : Nat) : Nat

/-- Blocks of the Artwork Store, and words of a block (R57, section 4.1). -/
def storeBlocks : Nat := 131072
abbrev blockWords : Nat := 1024

/-- The part code and the revision of READ_ID (R179). -/
def partCode : Nat := 0x48
def revision : Nat := 1

/-- The highest ink load and sum units: ink-load unit divisor of R86. -/
def inkUnit : Nat := 4096

end Sys2Proof.Config
end

