-- ==== Sys2Proof/Syntax.lean ====
section
/-! DEFINITION. The commands: the keys by which the spec numbers things (ports, beds, heads, pass
classes, sides, press lists, planes), one-entry-per-key records, and `Instr`, one constructor for
each row of spec/opcode_table.json. -/

namespace Sys2Proof

/-- The four line ports; the number of a port fixes its role (R167). -/
inductive Port where
  | order | pretreat | print | press
  deriving DecidableEq, Repr

/-- The two print beds (section 6.3). -/
inductive Bed where
  | a | b
  deriving DecidableEq, Repr

/-- The two press heads, 0 and 1 (section 6.3). -/
inductive HeadId where
  | h0 | h1
  deriving DecidableEq, Repr

/-- The two pass classes (R148). -/
inductive PassClass where
  | dry | cure
  deriving DecidableEq, Repr

/-- The two sides of an artwork access (R63). -/
inductive Side where
  | load | print
  deriving DecidableEq, Repr

/-- The four waiting lists of the press rack, in the order of R128. -/
inductive RackList where
  | cureRush | cureStd | dryRush | dryStd
  deriving DecidableEq, Repr

/-- The five ink planes, in the order of R61. -/
inductive Plane where
  | c | m | y | k | w
  deriving DecidableEq, Repr

/-- One entry for each port. -/
structure PerPort (α : Type) where
  order : α
  pretreat : α
  print : α
  press : α
  deriving DecidableEq, Repr

/-- The entry of one key. -/
def PerPort.get {α : Type} (t : PerPort α) : Port → α
  | .order => t.order
  | .pretreat => t.pretreat
  | .print => t.print
  | .press => t.press

/-- The record with the entry of one key replaced. -/
def PerPort.set {α : Type} (t : PerPort α) (key : Port) (a : α) : PerPort α :=
  match key with
  | .order => { t with order := a }
  | .pretreat => { t with pretreat := a }
  | .print => { t with print := a }
  | .press => { t with press := a }

/-- The record with the entry of one key changed by `f`. -/
def PerPort.modify {α : Type} (t : PerPort α) (key : Port) (f : α → α) : PerPort α :=
  t.set key (f (t.get key))

/-- The record with every entry changed by `f`. -/
def PerPort.map {α β : Type} (f : α → β) (t : PerPort α) : PerPort β :=
  ⟨f t.order, f t.pretreat, f t.print, f t.press⟩

/-- One entry for each bed. -/
structure PerBed (α : Type) where
  a : α
  b : α
  deriving DecidableEq, Repr

/-- The entry of one key. -/
def PerBed.get {α : Type} (t : PerBed α) : Bed → α
  | .a => t.a
  | .b => t.b

/-- The record with the entry of one key replaced. -/
def PerBed.set {α : Type} (t : PerBed α) (key : Bed) (a : α) : PerBed α :=
  match key with
  | .a => { t with a := a }
  | .b => { t with b := a }

/-- The record with the entry of one key changed by `f`. -/
def PerBed.modify {α : Type} (t : PerBed α) (key : Bed) (f : α → α) : PerBed α :=
  t.set key (f (t.get key))

/-- The record with every entry changed by `f`. -/
def PerBed.map {α β : Type} (f : α → β) (t : PerBed α) : PerBed β :=
  ⟨f t.a, f t.b⟩

/-- One entry for each head. -/
structure PerHead (α : Type) where
  h0 : α
  h1 : α
  deriving DecidableEq, Repr

/-- The entry of one key. -/
def PerHead.get {α : Type} (t : PerHead α) : HeadId → α
  | .h0 => t.h0
  | .h1 => t.h1

/-- The record with the entry of one key replaced. -/
def PerHead.set {α : Type} (t : PerHead α) (key : HeadId) (a : α) : PerHead α :=
  match key with
  | .h0 => { t with h0 := a }
  | .h1 => { t with h1 := a }

/-- The record with the entry of one key changed by `f`. -/
def PerHead.modify {α : Type} (t : PerHead α) (key : HeadId) (f : α → α) : PerHead α :=
  t.set key (f (t.get key))

/-- The record with every entry changed by `f`. -/
def PerHead.map {α β : Type} (f : α → β) (t : PerHead α) : PerHead β :=
  ⟨f t.h0, f t.h1⟩

/-- One entry for each pass class. -/
structure PerClass (α : Type) where
  dry : α
  cure : α
  deriving DecidableEq, Repr

/-- The entry of one key. -/
def PerClass.get {α : Type} (t : PerClass α) : PassClass → α
  | .dry => t.dry
  | .cure => t.cure

/-- The record with the entry of one key replaced. -/
def PerClass.set {α : Type} (t : PerClass α) (key : PassClass) (a : α) : PerClass α :=
  match key with
  | .dry => { t with dry := a }
  | .cure => { t with cure := a }

/-- The record with the entry of one key changed by `f`. -/
def PerClass.modify {α : Type} (t : PerClass α) (key : PassClass) (f : α → α) : PerClass α :=
  t.set key (f (t.get key))

/-- The record with every entry changed by `f`. -/
def PerClass.map {α β : Type} (f : α → β) (t : PerClass α) : PerClass β :=
  ⟨f t.dry, f t.cure⟩

/-- One entry for each side. -/
structure PerSide (α : Type) where
  load : α
  print : α
  deriving DecidableEq, Repr

/-- The entry of one key. -/
def PerSide.get {α : Type} (t : PerSide α) : Side → α
  | .load => t.load
  | .print => t.print

/-- The record with the entry of one key replaced. -/
def PerSide.set {α : Type} (t : PerSide α) (key : Side) (a : α) : PerSide α :=
  match key with
  | .load => { t with load := a }
  | .print => { t with print := a }

/-- The record with the entry of one key changed by `f`. -/
def PerSide.modify {α : Type} (t : PerSide α) (key : Side) (f : α → α) : PerSide α :=
  t.set key (f (t.get key))

/-- The record with every entry changed by `f`. -/
def PerSide.map {α β : Type} (f : α → β) (t : PerSide α) : PerSide β :=
  ⟨f t.load, f t.print⟩

/-- One entry for each waiting list. -/
structure PerList (α : Type) where
  cureRush : α
  cureStd : α
  dryRush : α
  dryStd : α
  deriving DecidableEq, Repr

/-- The entry of one key. -/
def PerList.get {α : Type} (t : PerList α) : RackList → α
  | .cureRush => t.cureRush
  | .cureStd => t.cureStd
  | .dryRush => t.dryRush
  | .dryStd => t.dryStd

/-- The record with the entry of one key replaced. -/
def PerList.set {α : Type} (t : PerList α) (key : RackList) (a : α) : PerList α :=
  match key with
  | .cureRush => { t with cureRush := a }
  | .cureStd => { t with cureStd := a }
  | .dryRush => { t with dryRush := a }
  | .dryStd => { t with dryStd := a }

/-- The record with the entry of one key changed by `f`. -/
def PerList.modify {α : Type} (t : PerList α) (key : RackList) (f : α → α) : PerList α :=
  t.set key (f (t.get key))

/-- The record with every entry changed by `f`. -/
def PerList.map {α β : Type} (f : α → β) (t : PerList α) : PerList β :=
  ⟨f t.cureRush, f t.cureStd, f t.dryRush, f t.dryStd⟩

/-- One entry for each ink plane. -/
structure PerPlane (α : Type) where
  c : α
  m : α
  y : α
  k : α
  w : α
  deriving DecidableEq, Repr

/-- The entry of one key. -/
def PerPlane.get {α : Type} (t : PerPlane α) : Plane → α
  | .c => t.c
  | .m => t.m
  | .y => t.y
  | .k => t.k
  | .w => t.w

/-- The record with the entry of one key replaced. -/
def PerPlane.set {α : Type} (t : PerPlane α) (key : Plane) (a : α) : PerPlane α :=
  match key with
  | .c => { t with c := a }
  | .m => { t with m := a }
  | .y => { t with y := a }
  | .k => { t with k := a }
  | .w => { t with w := a }

/-- The record with the entry of one key changed by `f`. -/
def PerPlane.modify {α : Type} (t : PerPlane α) (key : Plane) (f : α → α) : PerPlane α :=
  t.set key (f (t.get key))

/-- The record with every entry changed by `f`. -/
def PerPlane.map {α β : Type} (f : α → β) (t : PerPlane α) : PerPlane β :=
  ⟨f t.c, f t.m, f t.y, f t.k, f t.w⟩

/-- An order line's index, a platen's number, an artwork's number, a segment's number, a fabric
class (section 6.3). -/
abbrev LineIx := Fin 256
abbrev PlatenIx := Fin 48
abbrev ArtIx := Fin 64
abbrev SegIx := Fin 16
abbrev FabricIx := Fin 8

/-- The selector and the argument of a request frame (section 11.2). -/
abbrev Selector := BitVec 7
abbrev Arg := BitVec 32

/-- What brings a full reset about (R181): the reset pin, or power-on. Both reset the part; power-on
alone leaves the store's words without a defined value (R57). -/
inductive ResetCause where
  | pin | powerOn
  deriving DecidableEq, Repr

/-- The four control words of a link (section 11.3). -/
inductive LinkControl where
  | idle | start | endMark | cut
  deriving DecidableEq, Repr

/-- One word as it comes in on the load link: a data word, a control word, or a word holding a byte
that the line code rejects (R183). -/
inductive LinkWord where
  | data (w : Word)
  | control (c : LinkControl)
  | rejected
  deriving DecidableEq, Repr

/-- The commands of R172. CONFIG and NOTICE_MASK are one command each, with the S flag. -/
inductive Cmd where
  | nop | extend | readId | fetchNotice | noticeMask | readPlaten
  | postLine | amendLine | holdLine | cancelLine | retireLine | readLine | loadScan | unload
  | artworkOpen | segmentSet | segmentDrop | artworkDelete | loadRun | loadAbort | readWord
  | preflightStart | preflightAbandon | restoreHead | config | closeCommissioning | lineClear
  | clearFault | readFault | readArtwork | readPreflight | readBed
  | readPress | readThermal
  | arrive
  | pretreatStart | pretreatDone
  | printStart | stripe | stripeCut | printEnd
  | takeAssignment | pressClosed | pressSample | pressOpened | headDecline
  deriving DecidableEq, Repr

/-- Why a frame is refused (R170), with NONE for a frame that is not (R167), in the order of the
status byte's codes (section 11.2). -/
inductive RefusalReason where
  | none | check | length | unknown | role
  deriving DecidableEq, Repr

/-- One command of the block: one constructor for each row of spec/opcode_table.json.

A row that is a command frame stands for the frame's clock edges and the release of select that ends
it (R168); its operands are the port, where more than one role accepts the command (R172), and the
selector and argument its rule reads. The other rows are events of the part or of its pins. -/
inductive Instr where
  /-- Assertion of a port's select input (R168). -/
  | selectAssertion (p : Port)
  /-- The release that ends a frame whose clock edges shifted in `bits`, first bit first, and which
  R170 refuses. -/
  | frameRefused (p : Port) (bits : List Bool)
  /-- Full reset (R181). -/
  | fullReset (cause : ResetCause)
  | nop (p : Port)
  | extend (p : Port) (arg : Arg)
  | readId (p : Port)
  | fetchNotice (p : Port)
  | noticeMaskRead (p : Port)
  | noticeMaskWrite (p : Port) (arg : Arg)
  | readPlaten (p : Port) (sel : Selector) (arg : Arg)
  | postLine (sel : Selector) (arg : Arg)
  | amendLine (arg : Arg)
  | holdLine (arg : Arg)
  | cancelLine (arg : Arg)
  | retireLine (arg : Arg)
  | readLine (sel : Selector) (arg : Arg)
  | loadScan (sel : Selector) (arg : Arg)
  | unload (sel : Selector)
  | artworkOpen (sel : Selector)
  | segmentSet (sel : Selector) (arg : Arg)
  | segmentDrop (sel : Selector) (arg : Arg)
  | artworkDelete (sel : Selector)
  | loadRun (sel : Selector) (arg : Arg)
  | loadAbort
  | readWord (sel : Selector) (arg : Arg)
  | preflightStart (sel : Selector) (arg : Arg)
  | preflightAbandon
  | restoreHead (sel : Selector)
  | configRead (sel : Selector) (arg : Arg)
  | configWrite (sel : Selector) (arg : Arg)
  | closeCommissioning
  | lineClear
  | clearFault (p : Port) (sel : Selector)
  | readFault (p : Port) (sel : Selector) (arg : Arg)
  | readArtwork (p : Port) (sel : Selector) (arg : Arg)
  | readPreflight (p : Port) (sel : Selector) (arg : Arg)
  | readBed (p : Port) (sel : Selector) (arg : Arg)
  | readPress (p : Port) (sel : Selector) (arg : Arg)
  | readThermal (p : Port) (sel : Selector) (arg : Arg)
  | arrive (p : Port) (sel : Selector)
  | pretreatStart (sel : Selector)
  | pretreatDone (sel : Selector) (arg : Arg)
  | printStart (sel : Selector) (arg : Arg)
  | stripe (sel : Selector) (arg : Arg)
  | stripeCut (sel : Selector)
  | printEnd (sel : Selector) (arg : Arg)
  | takeAssignment (sel : Selector)
  | pressClosed (sel : Selector)
  | pressSample (sel : Selector) (arg : Arg)
  | pressOpened (sel : Selector)
  | headDecline (sel : Selector) (arg : Arg)
  /-- Expiry of a head's close, sample, release or park timer (R138, R139, R142). -/
  | closeTimerExpiry (h : HeadId)
  | sampleTimerExpiry (h : HeadId)
  | releaseTimerExpiry (h : HeadId)
  | parkTimerExpiry (h : HeadId)
  /-- Words that arrive on the load link, one or more, in the order in which they arrive: start
  markers, the words of blocks, and what stands between blocks (R73, R183; log 17). -/
  | loadLinkBlock (first : LinkWord) (more : List LinkWord)
  /-- The Preflight Engine finishes reading one authorized block (R84). -/
  | preflightBlockRead
  /-- The end marker of the stripe block being sent goes out (R115). -/
  | stripeSendComplete
  deriving DecidableEq, Repr

end Sys2Proof
end

