-- ==== Sys2Proof/Decode.lean ====
section
/-! DEFINITION. Frames: the check code of R169, the frame layout and command codes of section 11.2,
the roles of R172, the decoder of a 56-bit request (checks 2 to 4 of R170) and its encoder, and the
table words the host asks for (the table gives no row bits). -/

namespace Sys2Proof

/-! ## The check code (R169) -/

/-- One bit fed into the check register: shift toward the top, and the pattern 0x07 when the top bit
and the incoming bit differ. -/
def crcStep (reg : BitVec 8) (bit : Bool) : BitVec 8 :=
  if reg.msb ^^ bit then (reg <<< 1) ^^^ 0x07#8 else reg <<< 1

/-- The bits of the 48 bits before a check field, most significant first. -/
def bitsOf48 (body : BitVec 48) : List Bool := (List.range 48).map fun i => body.getLsbD (47 - i)

/-- The check code of 48 bits (R169): a register of all ones fed with them, no final inversion. -/
def checkCode (body : BitVec 48) : BitVec 8 := (bitsOf48 body).foldl crcStep 0xFF#8

/-! ## Frame fields (section 11.2) -/

/-- The request frame of four fields, its check field included. -/
def mkFrame (code : BitVec 8) (sFlag : Bool) (sel : Selector) (arg : Arg) : BitVec 56 :=
  let body : BitVec 48 := (code ++ BitVec.ofBool sFlag ++ sel ++ arg : BitVec (8 + 1 + 7 + 32))
  (body ++ checkCode body : BitVec (48 + 8))

def frameBody (f : BitVec 56) : BitVec 48 := f.extractLsb' 8 48
def frameCheck (f : BitVec 56) : BitVec 8 := f.extractLsb' 0 8
def frameCode (f : BitVec 56) : BitVec 8 := f.extractLsb' 48 8
def frameS (f : BitVec 56) : Bool := f.getLsbD 47
def frameSel (f : BitVec 56) : Selector := f.extractLsb' 40 7
def frameArg (f : BitVec 56) : Arg := f.extractLsb' 8 32

/-! ## Command codes and roles -/

/-- The command codes of section 11.2. -/
def Cmd.code : Cmd → BitVec 8
  | .nop => 0x00#8 | .extend => 0x01#8 | .readId => 0x02#8 | .fetchNotice => 0x03#8
  | .noticeMask => 0x04#8 | .readPlaten => 0x05#8
  | .postLine => 0x10#8 | .amendLine => 0x11#8 | .holdLine => 0x12#8 | .cancelLine => 0x13#8
  | .retireLine => 0x14#8 | .readLine => 0x15#8 | .loadScan => 0x16#8 | .unload => 0x17#8
  | .artworkOpen => 0x18#8 | .segmentSet => 0x19#8 | .segmentDrop => 0x1A#8
  | .artworkDelete => 0x1B#8 | .loadRun => 0x1C#8 | .loadAbort => 0x1D#8 | .readWord => 0x1E#8
  | .preflightStart => 0x1F#8 | .preflightAbandon => 0x20#8 | .restoreHead => 0x21#8
  | .config => 0x22#8 | .closeCommissioning => 0x23#8 | .lineClear => 0x24#8
  | .clearFault => 0x30#8 | .readFault => 0x31#8 | .readArtwork => 0x32#8
  | .readPreflight => 0x33#8 | .readBed => 0x34#8
  | .readPress => 0x38#8 | .readThermal => 0x39#8
  | .arrive => 0x40#8
  | .pretreatStart => 0x50#8 | .pretreatDone => 0x51#8
  | .printStart => 0x60#8 | .stripe => 0x61#8 | .stripeCut => 0x62#8 | .printEnd => 0x63#8
  | .takeAssignment => 0x70#8 | .pressClosed => 0x71#8 | .pressSample => 0x72#8
  | .pressOpened => 0x73#8 | .headDecline => 0x74#8

/-- Every command, in the order of its code. -/
def Cmd.all : List Cmd :=
  [.nop, .extend, .readId, .fetchNotice, .noticeMask, .readPlaten,
   .postLine, .amendLine, .holdLine, .cancelLine, .retireLine, .readLine, .loadScan, .unload,
   .artworkOpen, .segmentSet, .segmentDrop, .artworkDelete, .loadRun, .loadAbort, .readWord,
   .preflightStart, .preflightAbandon, .restoreHead, .config, .closeCommissioning, .lineClear,
   .clearFault, .readFault, .readArtwork, .readPreflight, .readBed,
   .readPress, .readThermal, .arrive, .pretreatStart, .pretreatDone,
   .printStart, .stripe, .stripeCut, .printEnd,
   .takeAssignment, .pressClosed, .pressSample, .pressOpened, .headDecline]

/-- The command of a code; none where the code is unassigned (R172). -/
def Cmd.ofCode (code : BitVec 8) : Option Cmd := Cmd.all.find? fun c => c.code == code

/-- The ports whose role accepts a command (R172). -/
def Cmd.acceptedOn : Cmd → Port → Bool
  | .nop, _ | .extend, _ | .readId, _ | .fetchNotice, _ | .noticeMask, _ | .readPlaten, _ => true
  | .clearFault, p | .readFault, p | .readArtwork, p | .readPreflight, p | .readBed, p =>
    p == .order || p == .print
  | .readPress, p | .readThermal, p => p == .order || p == .press
  | .arrive, p => p != .order
  | .pretreatStart, p | .pretreatDone, p => p == .pretreat
  | .printStart, p | .stripe, p | .stripeCut, p | .printEnd, p => p == .print
  | .takeAssignment, p | .pressClosed, p | .pressSample, p | .pressOpened, p | .headDecline, p =>
    p == .press
  | .postLine, p | .amendLine, p | .holdLine, p | .cancelLine, p | .retireLine, p | .readLine, p
  | .loadScan, p | .unload, p | .artworkOpen, p | .segmentSet, p | .segmentDrop, p
  | .artworkDelete, p | .loadRun, p | .loadAbort, p | .readWord, p | .preflightStart, p
  | .preflightAbandon, p | .restoreHead, p | .config, p | .closeCommissioning, p | .lineClear, p =>
    p == .order

/-! ## From fields to a command and back -/

/-- The command row of a request's fields. The S flag is read by CONFIG and NOTICE_MASK alone, and
fields that a command does not use are ignored (section 10.2, R182). -/
def Instr.ofFields (c : Cmd) (p : Port) (sFlag : Bool) (sel : Selector) (arg : Arg) : Instr :=
  match c with
  | .nop => .nop p
  | .extend => .extend p arg
  | .readId => .readId p
  | .fetchNotice => .fetchNotice p
  | .noticeMask => if sFlag then .noticeMaskWrite p arg else .noticeMaskRead p
  | .readPlaten => .readPlaten p sel arg
  | .postLine => .postLine sel arg
  | .amendLine => .amendLine arg
  | .holdLine => .holdLine arg
  | .cancelLine => .cancelLine arg
  | .retireLine => .retireLine arg
  | .readLine => .readLine sel arg
  | .loadScan => .loadScan sel arg
  | .unload => .unload sel
  | .artworkOpen => .artworkOpen sel
  | .segmentSet => .segmentSet sel arg
  | .segmentDrop => .segmentDrop sel arg
  | .artworkDelete => .artworkDelete sel
  | .loadRun => .loadRun sel arg
  | .loadAbort => .loadAbort
  | .readWord => .readWord sel arg
  | .preflightStart => .preflightStart sel arg
  | .preflightAbandon => .preflightAbandon
  | .restoreHead => .restoreHead sel
  | .config => if sFlag then .configWrite sel arg else .configRead sel arg
  | .closeCommissioning => .closeCommissioning
  | .lineClear => .lineClear
  | .clearFault => .clearFault p sel
  | .readFault => .readFault p sel arg
  | .readArtwork => .readArtwork p sel arg
  | .readPreflight => .readPreflight p sel arg
  | .readBed => .readBed p sel arg
  | .readPress => .readPress p sel arg
  | .readThermal => .readThermal p sel arg
  | .arrive => .arrive p sel
  | .pretreatStart => .pretreatStart sel
  | .pretreatDone => .pretreatDone sel arg
  | .printStart => .printStart sel arg
  | .stripe => .stripe sel arg
  | .stripeCut => .stripeCut sel
  | .printEnd => .printEnd sel arg
  | .takeAssignment => .takeAssignment sel
  | .pressClosed => .pressClosed sel
  | .pressSample => .pressSample sel arg
  | .pressOpened => .pressOpened sel
  | .headDecline => .headDecline sel arg

/-- The fields of a request frame. -/
structure Request where
  port  : Port
  cmd   : Cmd
  sFlag : Bool
  sel   : Selector
  arg   : Arg
  deriving DecidableEq, Repr

/-- The request that carries a command row; none for the rows that are not taken frames. Fields the
command does not use are 0. -/
def Instr.request : Instr → Option Request
  | .nop p => some ⟨p, .nop, false, 0, 0⟩
  | .extend p arg => some ⟨p, .extend, false, 0, arg⟩
  | .readId p => some ⟨p, .readId, false, 0, 0⟩
  | .fetchNotice p => some ⟨p, .fetchNotice, false, 0, 0⟩
  | .noticeMaskRead p => some ⟨p, .noticeMask, false, 0, 0⟩
  | .noticeMaskWrite p arg => some ⟨p, .noticeMask, true, 0, arg⟩
  | .readPlaten p sel arg => some ⟨p, .readPlaten, false, sel, arg⟩
  | .postLine sel arg => some ⟨.order, .postLine, false, sel, arg⟩
  | .amendLine arg => some ⟨.order, .amendLine, false, 0, arg⟩
  | .holdLine arg => some ⟨.order, .holdLine, false, 0, arg⟩
  | .cancelLine arg => some ⟨.order, .cancelLine, false, 0, arg⟩
  | .retireLine arg => some ⟨.order, .retireLine, false, 0, arg⟩
  | .readLine sel arg => some ⟨.order, .readLine, false, sel, arg⟩
  | .loadScan sel arg => some ⟨.order, .loadScan, false, sel, arg⟩
  | .unload sel => some ⟨.order, .unload, false, sel, 0⟩
  | .artworkOpen sel => some ⟨.order, .artworkOpen, false, sel, 0⟩
  | .segmentSet sel arg => some ⟨.order, .segmentSet, false, sel, arg⟩
  | .segmentDrop sel arg => some ⟨.order, .segmentDrop, false, sel, arg⟩
  | .artworkDelete sel => some ⟨.order, .artworkDelete, false, sel, 0⟩
  | .loadRun sel arg => some ⟨.order, .loadRun, false, sel, arg⟩
  | .loadAbort => some ⟨.order, .loadAbort, false, 0, 0⟩
  | .readWord sel arg => some ⟨.order, .readWord, false, sel, arg⟩
  | .preflightStart sel arg => some ⟨.order, .preflightStart, false, sel, arg⟩
  | .preflightAbandon => some ⟨.order, .preflightAbandon, false, 0, 0⟩
  | .restoreHead sel => some ⟨.order, .restoreHead, false, sel, 0⟩
  | .configRead sel arg => some ⟨.order, .config, false, sel, arg⟩
  | .configWrite sel arg => some ⟨.order, .config, true, sel, arg⟩
  | .closeCommissioning => some ⟨.order, .closeCommissioning, false, 0, 0⟩
  | .lineClear => some ⟨.order, .lineClear, false, 0, 0⟩
  | .clearFault p sel => some ⟨p, .clearFault, false, sel, 0⟩
  | .readFault p sel arg => some ⟨p, .readFault, false, sel, arg⟩
  | .readArtwork p sel arg => some ⟨p, .readArtwork, false, sel, arg⟩
  | .readPreflight p sel arg => some ⟨p, .readPreflight, false, sel, arg⟩
  | .readBed p sel arg => some ⟨p, .readBed, false, sel, arg⟩
  | .readPress p sel arg => some ⟨p, .readPress, false, sel, arg⟩
  | .readThermal p sel arg => some ⟨p, .readThermal, false, sel, arg⟩
  | .arrive p sel => some ⟨p, .arrive, false, sel, 0⟩
  | .pretreatStart sel => some ⟨.pretreat, .pretreatStart, false, sel, 0⟩
  | .pretreatDone sel arg => some ⟨.pretreat, .pretreatDone, false, sel, arg⟩
  | .printStart sel arg => some ⟨.print, .printStart, false, sel, arg⟩
  | .stripe sel arg => some ⟨.print, .stripe, false, sel, arg⟩
  | .stripeCut sel => some ⟨.print, .stripeCut, false, sel, 0⟩
  | .printEnd sel arg => some ⟨.print, .printEnd, false, sel, arg⟩
  | .takeAssignment sel => some ⟨.press, .takeAssignment, false, sel, 0⟩
  | .pressClosed sel => some ⟨.press, .pressClosed, false, sel, 0⟩
  | .pressSample sel arg => some ⟨.press, .pressSample, false, sel, arg⟩
  | .pressOpened sel => some ⟨.press, .pressOpened, false, sel, 0⟩
  | .headDecline sel arg => some ⟨.press, .headDecline, false, sel, arg⟩
  | .selectAssertion _ | .frameRefused _ _ | .fullReset _ | .closeTimerExpiry _
  | .sampleTimerExpiry _ | .releaseTimerExpiry _ | .parkTimerExpiry _ | .loadLinkBlock _ _
  | .preflightBlockRead | .stripeSendComplete => none

/-- The 56-bit frame of a request. -/
def Request.frame (r : Request) : BitVec 56 := mkFrame r.cmd.code r.sFlag r.sel r.arg

/-- The frame that carries a command row, with the port it travels on. -/
def encodeFrame (i : Instr) : Option (Port × BitVec 56) := i.request.map fun r => (r.port, r.frame)

/-- Checks 2 to 4 of R170 on a 56-bit frame received on port `p`, and the command row it carries when
all of them pass. -/
def decodeFrame (p : Port) (f : BitVec 56) : Except RefusalReason Instr :=
  if frameCheck f ≠ checkCode (frameBody f) then .error .check
  else
    match Cmd.ofCode (frameCode f) with
    | none => .error .unknown
    | some c =>
      if c.acceptedOn p then .ok (Instr.ofFields c p (frameS f) (frameSel f) (frameArg f))
      else .error .role

/-! ## The frame receiver (R168) -/

/-- A frame receiver that is receiving: its edge count, and the bits shifted in so far, the latest in
bit 0. -/
structure Receiver where
  edges : Nat
  bits  : BitVec 56
  deriving DecidableEq, Repr

/-- A receiver at a select assertion: edge count 0, no bits held (R168). -/
def Receiver.start : Receiver := ⟨0, 0⟩

/-- One rising clock edge: the bit is shifted in and the edge count rises, staying at 255 (R168). -/
def Receiver.edge (r : Receiver) (bit : Bool) : Receiver :=
  ⟨satAdd 255 r.edges 1, (r.bits <<< 1) ||| (BitVec.ofBool bit).setWidth 56⟩

/-- The judgement of R170 at the release of select: the first check that fails, or the command row
the frame carries. -/
def judgeFrame (p : Port) (r : Receiver) : Except RefusalReason Instr :=
  if r.edges ≠ 56 then .error .length else decodeFrame p r.bits

/-- The bits of a frame in the order in which they travel, bit 55 first (section 11.1). -/
def frameBits (f : BitVec 56) : List Bool := (List.range 56).map fun i => f.getLsbD (55 - i)

/-- The command that a table word spells. spec/opcode_table.json gives bits for none of its rows, so
no word spells one. -/
def decodeTableWord (_nbits _w : Nat) : Option Instr := none

end Sys2Proof
end

