-- ==== Sys2Proof/Machine/State.lean ====
section
/-! DEFINITION. The state of the part as plain data: every record, table, list, counter, mode and
pin that spec/01 to spec/10 give it, its value after full reset, and the queue of waiting commands. -/

namespace Sys2Proof.Machine

open Sys2Proof

/-! ## Answers -/

/-- Result codes (section 6.4, section 11.2). -/
inductive Result where
  | ok | clamped | busy | full | notFound | badState | inUse | notReady | duplicate | overlap
  | locked | pass | skip | topup | noMatch | late | fault | none
  deriving DecidableEq, Repr

/-- The answer of a taken command: its result code and its data (R171). -/
structure Answer where
  result : Result
  data   : Word
  deriving DecidableEq, Repr

/-- A port's pending reply (R167, R171): ATN and CO are completed at the select assertion. -/
structure Reply where
  fr     : Bool
  reason : RefusalReason
  result : Result
  data   : Word
  deriving DecidableEq, Repr

/-! ## Ports and notices -/

/-- One notice entry: pending mark and detail word (R176). -/
structure Notice where
  pending : Bool
  detail  : BitVec 28
  deriving DecidableEq, Repr

/-- The port state of R167. -/
structure PortState where
  /-- Whether the port's select input is asserted (R168; log 3). -/
  selectAsserted : Bool
  /-- The frame receiver: none is idle, waiting for a select assertion (R167). -/
  receiver       : Option Receiver
  /-- The reply latched at the last select assertion for shifting out, check field included (R168,
  R169, R171); none before the first (log 3). -/
  sent           : Option (BitVec 56)
  /-- The bits driven on the port's data output since the last select assertion, first bit first: one
  at each falling edge (R168; log 3). -/
  driven         : List Bool
  /-- The pending reply (R171). -/
  reply          : Reply
  /-- The extension word: none is invalid (R173). -/
  ext            : Option Word
  /-- The notice set, indexed by a kind's place in the port's priority list (R176). -/
  notices        : Table Notice 8
  /-- The enable mask, one bit per kind in priority order, set for enabled (R177). -/
  mask           : BitVec 8
  deriving DecidableEq, Repr

/-! ## Order book -/

/-- Whether the blank needs a white underbase (R1). -/
inductive Shade where
  | light | dark
  deriving DecidableEq, Repr

/-- Urgency of a line (R1). -/
inductive Priority where
  | rush | standard
  deriving DecidableEq, Repr

/-- Condition of an order line (R1, R2). -/
inductive LineState where
  | free | open_ | full | done | cancelled
  deriving DecidableEq, Repr

/-- One order line (R1). -/
structure OrderLine where
  state    : LineState
  orderRef : Word
  lineNo   : BitVec 3
  style    : BitVec 10
  size     : BitVec 4
  colour   : BitVec 7
  fabric   : FabricIx
  shade    : Shade
  priority : Priority
  artwork  : ArtIx
  wanted   : Nat
  bound    : Nat
  finished : Nat
  spoiled  : Nat
  serial   : Nat
  held     : Bool
  deriving DecidableEq, Repr

/-- A FREE line: every field reads as 0 (R1). -/
def OrderLine.free : OrderLine :=
  { state := .free, orderRef := 0, lineNo := 0, style := 0, size := 0, colour := 0, fabric := 0,
    shade := .light, priority := .standard, artwork := 0, wanted := 0, bound := 0, finished := 0,
    spoiled := 0, serial := 0, held := false }

/-- Match policy (R19). -/
inductive MatchPolicy where
  | rushFirst | ageOnly
  deriving DecidableEq, Repr

/-! ## Tickets and platens -/

/-- Ticket stages in their order (R23, R24). -/
inductive Stage where
  | bound | pretreating | pretreated | primed | printing | printed | cured
  deriving DecidableEq, Repr

/-- Ticket dispositions (R25). -/
inductive Disposition where
  | good | spoiled | void
  deriving DecidableEq, Repr

/-- Spoil reasons in the order of R27. -/
inductive SpoilReason where
  | underdose | underdried | printFailed | scorched | undercured | headRetries | pulled
  deriving DecidableEq, Repr

/-- The ticket part of a platen record (R23). -/
structure Ticket where
  line        : LineIx
  serial      : Nat
  artwork     : ArtIx
  fabric      : FabricIx
  shade       : Shade
  priority    : Priority
  lc          : Nat
  lw          : Nat
  dose        : Nat
  applied     : Nat
  sprays      : Nat
  dryTarget   : Option Nat
  dryCredit   : Nat
  cureTarget  : Option Nat
  cureCredit  : Nat
  presses     : Nat
  scorches    : Nat
  headRetries : Nat
  stage       : Stage
  disposition : Disposition
  reason      : Option SpoilReason
  deriving DecidableEq, Repr

/-- Locations (R41). -/
inductive Location where
  | loadZone | transit | pretreatQueue | pretreatSlot | printQueue
  | bed (which : Bed) | rack (l : RackList) | head (h : HeadId)
  deriving DecidableEq, Repr

/-- One platen record (R39). -/
structure Platen where
  location  : Location
  ticket    : Option Ticket
  misroutes : Nat
  deriving DecidableEq, Repr

/-! ## Artworks -/

/-- Artwork entry states (R58, R59). -/
inductive ArtState where
  | free | loading | preflight | ready
  deriving DecidableEq, Repr

/-- Which end of a segment its authorized range is anchored at (R61). -/
inductive Direction where
  | up | down
  deriving DecidableEq, Repr

/-- What the LOAD side may do with a segment (R61). -/
inductive LoadKey where
  | absent | read | readWrite
  deriving DecidableEq, Repr

/-- What the PRINT side may do with a segment (R61). -/
inductive PrintKey where
  | absent | read
  deriving DecidableEq, Repr

/-- One segment descriptor (R61). -/
structure Segment where
  resident : Bool
  base     : Nat
  len      : Nat
  dir      : Direction
  plane    : Plane
  loadKey  : LoadKey
  printKey : PrintKey
  written  : Bool
  valid    : Bool
  sum      : Nat
  deriving DecidableEq, Repr

/-- A non-resident descriptor's values (R61). -/
def Segment.nonResident : Segment :=
  { resident := false, base := 0, len := 0, dir := .up, plane := .c, loadKey := .absent,
    printKey := .absent, written := false, valid := false, sum := 0 }

/-- One artwork entry (R58). -/
structure Artwork where
  state    : ArtState
  lines    : Nat
  tickets  : Nat
  totals   : PerPlane Nat
  lc       : Nat
  lw       : Nat
  inkValid : Bool
  segs     : Table Segment 16
  deriving DecidableEq, Repr

/-- A FREE entry's values (R58). -/
def Artwork.free : Artwork :=
  { state := .free, lines := 0, tickets := 0, totals := ⟨0, 0, 0, 0, 0⟩, lc := 0, lw := 0,
    inkValid := false, segs := Table.replicate 16 Segment.nonResident }

/-- The access that faulted (R64). -/
inductive FaultOrigin where
  | runOpen | runBlock | readWord | stripeOpen | stripeBlock
  deriving DecidableEq, Repr

/-- The fault flags of an access (R63). -/
structure AccessFlags where
  nonResident : Bool
  length      : Bool
  readOnly    : Bool
  deriving DecidableEq, Repr

/-- A side's fault record (R64). -/
structure FaultRecord where
  frozen  : Bool
  flags   : AccessFlags
  origin  : FaultOrigin
  artwork : ArtIx
  segment : SegIx
  block   : Nat
  edge    : Bool
  bed     : Bed
  overrun : Bool
  deriving DecidableEq, Repr

/-- The empty record: every field at its empty value (R65). -/
def FaultRecord.empty : FaultRecord :=
  { frozen := false, flags := ⟨false, false, false⟩, origin := .runOpen, artwork := 0, segment := 0,
    block := 0, edge := false, bed := .a, overrun := false }

/-- An open load run (R72). -/
structure LoadRun where
  artwork : ArtIx
  segment : SegIx
  first   : Nat
  count   : Nat
  written : Nat
  deriving DecidableEq, Repr

/-- The block in progress at the Load Link Receiver: the data words that have arrived since its start
marker, oldest first, and whether it belongs to the load run that is open now (R73, R79). -/
structure LoadBlock where
  words : List Word
  inRun : Bool
  deriving DecidableEq, Repr

/-! ## The Artwork Store -/

/-- One store block: 1024 words (R57). -/
abbrev Block := Table Word Config.blockWords

/-- The store's written blocks as (block number, contents), numbers strictly rising. A block that is
not listed has not been written since power-on, and its words hold no defined value (R57; log 4). -/
abbrev Memory := List (Nat × Block)

/-! ## Preflight -/

/-- Preflight modes (R80). -/
inductive PreflightMode where
  | full | incremental
  deriving DecidableEq, Repr

/-- The Preflight Engine's record (R80). `inSegment` counts the current segment's blocks already
added; it is the model's own (log 6). -/
structure Engine where
  running   : Bool
  artwork   : ArtIx
  mode      : PreflightMode
  scanList  : List SegIx
  current   : SegIx
  sum       : Nat
  segsDone  : Nat
  blocks    : Nat
  inSegment : Nat
  deriving DecidableEq, Repr

/-- The IDLE engine (R80). -/
def Engine.idle : Engine :=
  { running := false, artwork := 0, mode := .full, scanList := [], current := 0, sum := 0,
    segsDone := 0, blocks := 0, inSegment := 0 }

/-! ## Printing -/

/-- Direction of a stripe run (R113). -/
inductive RunDir where
  | asc | desc
  deriving DecidableEq, Repr

/-- An open stripe run (R113). -/
structure StripeRun where
  segment  : SegIx
  dir      : RunDir
  first    : Nat
  count    : Nat
  sent     : Nat
  nextStep : Nat
  deriving DecidableEq, Repr

/-- A bed session (R110). -/
structure Session where
  active  : Bool
  platen  : PlatenIx
  artwork : ArtIx
  line    : LineIx
  sent    : Nat
  run     : Option StripeRun
  deriving DecidableEq, Repr

/-- The IDLE session (R110). -/
def Session.idle : Session :=
  { active := false, platen := 0, artwork := 0, line := 0, sent := 0, run := none }

/-- The block whose send has begun on the stripe link (R114, R115). -/
structure Sending where
  bed     : Bed
  segment : SegIx
  block   : Nat
  store   : Nat
  deriving DecidableEq, Repr

/-- The Stripe Link Transmitter (R115, R116). -/
structure StripeLink where
  sending    : Option Sending
  lastServed : Bed
  deriving DecidableEq, Repr

/-- What goes out on the stripe link (R115, R183; log 5). An IDLE entry stands for the IDLE words sent
until the next START. -/
inductive StripeOut where
  | idle
  | start (header : BitVec 24)
  | data (words : List Word)
  | endMark
  | cut
  deriving DecidableEq, Repr

/-! ## Press -/

/-- Arbitration modes (R126). -/
inductive ArbMode where
  | rotate | fixed
  deriving DecidableEq, Repr

/-- Park policies (R126, R142). -/
inductive ParkPolicy where
  | last | default_
  deriving DecidableEq, Repr

/-- Head states (R125). -/
inductive HeadState where
  | free | parked | assigned | closed | releasing | isolated | declining
  deriving DecidableEq, Repr

/-- Where a held platen goes (R125). -/
inductive PressOutcome where
  | transit | return_
  deriving DecidableEq, Repr

/-- The timers of a head (R125). -/
inductive TimerKind where
  | close | sample | release | park
  deriving DecidableEq, Repr

/-- A running timer: its kind and its time left in ticks of 1 ms (R125). -/
structure Timer where
  kind : TimerKind
  left : Nat
  deriving DecidableEq, Repr

/-- The assignments of R133. -/
inductive Assignment where
  | closeOn (platen : PlatenIx) (cls : PassClass) (setpoint : Nat) (changeover : Bool)
  | release
  | park (cls : PassClass) (setpoint : Nat)
  | setpoint (v : Nat)
  deriving DecidableEq, Repr

/-- A head record (R125). Whether a head is present follows from the heads present parameter
(R127). -/
structure Head where
  state          : HeadState
  cls            : PassClass
  platen         : Option PlatenIx
  origin         : RackList
  outcome        : PressOutcome
  declinePending : Bool
  late           : Bool
  closeOnTaken   : Bool
  timer          : Option Timer
  mailbox        : Option Assignment
  deriving DecidableEq, Repr

/-- Rotation pointers (R129). -/
inductive Level1 where
  | cureRush | cureStd | dryGroup
  deriving DecidableEq, Repr
inductive Level2 where
  | dryRush | dryStd
  deriving DecidableEq, Repr

/-- Direction of the last setpoint move (R152). -/
inductive MoveDir where
  | none | up | down | hold
  deriving DecidableEq, Repr

/-- The cycle record (R152). -/
structure Cycle where
  active  : Bool
  platen  : PlatenIx
  cls     : PassClass
  samples : Nat
  prevDir : MoveDir
  step    : Nat
  deriving DecidableEq, Repr

/-- The idle cycle record (R152). -/
def Cycle.idle : Cycle :=
  { active := false, platen := 0, cls := .dry, samples := 0, prevDir := .none, step := 1 }

/-- What the Press Thermal Unit holds for a head (R151, R152). -/
structure Thermal where
  setpoint : Nat
  cycle    : Cycle
  deriving DecidableEq, Repr

/-! ## Configuration -/

/-- Table 0 LINE of R174. -/
structure Params where
  matchPolicy  : MatchPolicy
  platenCount  : Nat
  minTopup     : Nat
  resprayLimit : Nat
  repressLimit : Nat
  deriving DecidableEq, Repr

/-- One row of the fabric class table (R95). -/
structure FabricRow where
  db       : Nat
  kw       : Nat
  dmin     : Nat
  dmax     : Nat
  underTol : Nat
  overTol  : Nat
  kdry     : Nat
  cbase    : Nat
  wet      : Nat
  deriving DecidableEq, Repr

/-- A row at its defaults (R95). -/
def FabricRow.default_ : FabricRow :=
  { db := 150, kw := 16, dmin := 100, dmax := 350, underTol := 15, overTol := 40, kdry := 40,
    cbase := 9000, wet := 20 }

/-- The Arbiter's parameters (R126). -/
structure PressParams where
  headsPresent   : Nat
  mode           : ArbMode
  closeTimeout   : Nat
  changeover     : Nat
  sampleTimeout  : Nat
  releaseTimeout : Nat
  retryLimit     : Nat
  isolation      : Bool
  parkDelay      : Nat
  parkPolicy     : ParkPolicy
  parkClass      : PassClass
  deriving DecidableEq, Repr

/-- One column of the pass class table (R148). -/
structure PassRow where
  tb          : Nat
  w0          : Nat
  goal        : Nat
  band        : Nat
  defSetpoint : Nat
  ceiling     : Nat
  baseStep    : Nat
  multiStep   : Bool
  scorchTemp  : Nat
  scorchLimit : Nat
  maxSamples  : Nat
  deriving DecidableEq, Repr

/-- The DRY and CURE columns at their defaults (R148). -/
def PassRow.dryDefault : PassRow :=
  { tb := 110, w0 := 8, goal := 140, band := 3, defSetpoint := 150, ceiling := 175, baseStep := 2,
    multiStep := true, scorchTemp := 185, scorchLimit := 4, maxSamples := 120 }
def PassRow.cureDefault : PassRow :=
  { tb := 150, w0 := 16, goal := 165, band := 3, defSetpoint := 160, ceiling := 190, baseStep := 2,
    multiStep := true, scorchTemp := 200, scorchLimit := 4, maxSamples := 240 }

/-! ## The state -/

/-- The whole part. -/
structure State where
  ports             : PerPort PortState
  commissioningOpen : Bool
  lineClears        : Nat
  params            : Params
  lines             : Table OrderLine 256
  age               : List LineIx
  platens           : Table Platen 48
  pretreatQueue     : List PlatenIx
  printQueue        : List PlatenIx
  slot              : Option PlatenIx
  artworks          : Table Artwork 64
  faults            : PerSide FaultRecord
  loadRun           : Option LoadRun
  /-- The block in progress on the load link; none between blocks (R73, R79). -/
  loadBlock         : Option LoadBlock
  store             : Memory
  powerOns          : Nat
  engine            : Engine
  fabric            : Table FabricRow 8
  beds              : PerBed Session
  link              : StripeLink
  stripeOut         : List StripeOut
  press             : PressParams
  heads             : PerHead Head
  lists             : PerList (List PlatenIx)
  level1            : Level1
  level2            : Level2
  pass              : PerClass PassRow
  thermal           : PerHead Thermal
  /-- The commands that wait, first in, first out. -/
  pending           : List Instr
  deriving DecidableEq, Repr

/-- Why the part stops. No rule of the spec stops it: a refused frame or command is an answer, and an
access fault is recorded (log 1). -/
inductive Fault where
  deriving DecidableEq, Repr

/-- Why a command has no meaning. -/
inductive Refusal where
  /-- Raised by an arm of `exec` whose command is not modelled; safe. No arm raises it. -/
  | notModelled (mnemonic : String)
  deriving DecidableEq, Repr

/-! ## Full reset (R167, R181 and the owners' rules) -/

/-- A pending reply that holds no answer (R167). -/
def Reply.noAnswer : Reply := ⟨false, .none, .none, 0⟩

/-- The enable mask with every kind of a port enabled (R167, R176). DEDUCED (log 25): a bit of 1 means
enabled. -/
def kindMask : Port → BitVec 8
  | .order => 0xFF#8
  | .pretreat => 0x03#8
  | .print => 0x1F#8
  | .press => 0x07#8

/-- A port after full reset (R167). -/
def PortState.reset (p : Port) : PortState :=
  { selectAsserted := false, receiver := none, sent := none, driven := [],
    reply := Reply.noAnswer, ext := none, notices := Table.replicate 8 ⟨false, 0⟩, mask := kindMask p }

/-- A head after full reset: FREE in CURE, its park timer started (R147). -/
def Head.reset : Head :=
  { state := .free, cls := .cure, platen := none, origin := .cureRush, outcome := .transit,
    declinePending := false, late := false, closeOnTaken := false,
    timer := some ⟨.park, 10000⟩, mailbox := none }

/-- The LINE parameters after full reset (R19, R39, R96, R148). -/
def Params.reset : Params :=
  { matchPolicy := .rushFirst, platenCount := 24, minTopup := 20, resprayLimit := 1,
    repressLimit := 1 }

/-- The Arbiter's parameters after full reset (R126). -/
def PressParams.reset : PressParams :=
  { headsPresent := 2, mode := .rotate, closeTimeout := 30, changeover := 60,
    sampleTimeout := 10, releaseTimeout := 20, retryLimit := 3, isolation := true,
    parkDelay := 10, parkPolicy := .last, parkClass := .cure }

/-- The part right after full reset from power-on. -/
def State.reset : State :=
  { ports := ⟨PortState.reset .order, PortState.reset .pretreat, PortState.reset .print,
      PortState.reset .press⟩,
    commissioningOpen := true,
    lineClears := 0,
    params := Params.reset,
    lines := Table.replicate 256 OrderLine.free,
    age := [],
    platens := Table.replicate 48 ⟨.transit, none, 0⟩,
    pretreatQueue := [],
    printQueue := [],
    slot := none,
    artworks := Table.replicate 64 Artwork.free,
    faults := ⟨FaultRecord.empty, FaultRecord.empty⟩,
    loadRun := none,
    loadBlock := none,
    store := [],
    powerOns := 0,
    engine := Engine.idle,
    fabric := Table.replicate 8 FabricRow.default_,
    beds := ⟨Session.idle, Session.idle⟩,
    link := ⟨none, .b⟩,
    stripeOut := [.idle],
    press := PressParams.reset,
    heads := ⟨Head.reset, Head.reset⟩,
    lists := ⟨[], [], [], []⟩,
    level1 := .dryGroup,
    level2 := .dryStd,
    pass := ⟨PassRow.dryDefault, PassRow.cureDefault⟩,
    thermal := ⟨⟨160, Cycle.idle⟩, ⟨160, Cycle.idle⟩⟩,
    pending := [] }

end Sys2Proof.Machine
end

