-- ==== Sys2Proof/Machine/Flags.lean ====
section
/-! DEFINITION. What the rules derive from a record: an order line's state (R2), a segment's
authorized range (R62) and an access's fault flags (R63), the press lists of a ticket (R50), the
attention condition (R177) and the status byte of a reply (R171). -/

namespace Sys2Proof.Machine

open Sys2Proof

/-! ## Order lines (R2) -/

/-- The state of a line that is not FREE, the first matching row of R2. The rows cover every line
that the rules can make; for any other the state stands (log 15). -/
def OrderLine.derived (l : OrderLine) : LineState :=
  match l.state with
  | .free => .free
  | .cancelled => .cancelled
  | st =>
    if l.bound + l.finished < l.wanted then .open_
    else if l.bound + l.finished = l.wanted ∧ 0 < l.bound then .full
    else if l.finished = l.wanted ∧ l.bound = 0 then .done
    else st

/-- The line with its state derived again. -/
def OrderLine.rederive (l : OrderLine) : OrderLine := { l with state := l.derived }

/-- The next bind serial: 1 after 0 and after 255 (R13). -/
def nextSerial (n : Nat) : Nat := if n = 255 then 1 else n + 1

/-! ## Segments and accesses (R62, R63) -/

/-- The lowest and the highest authorized segment block (R62). -/
def Segment.lowBlock (g : Segment) : Nat := match g.dir with | .up => 0 | .down => g.len
def Segment.highBlock (g : Segment) : Nat := match g.dir with | .up => g.len | .down => 255

/-- How many blocks the authorized range holds (R62). -/
def Segment.blockCount (g : Segment) : Nat := g.highBlock - g.lowBlock + 1

/-- Whether a segment block lies in the authorized range (R62). -/
def Segment.authorizes (g : Segment) (b : Nat) : Bool := g.lowBlock ≤ b && b ≤ g.highBlock

/-- The first and the last store block of the authorized store range (R62). -/
def Segment.firstStore (g : Segment) : Nat := g.base + g.lowBlock
def Segment.lastStore (g : Segment) : Nat := g.base + g.highBlock

/-- Two resident segments' authorized store ranges share a store block (R68, check 7). -/
def Segment.overlaps (g k : Segment) : Bool :=
  g.firstStore ≤ k.lastStore && k.firstStore ≤ g.lastStore

/-- The segment block an access names: a block, the EDGE case with the edge block stepped over, or a
run's open, at which the range is not judged (R63, R72, R113). -/
inductive AccessBlock where
  | block (b : Nat)
  | edge (b : Nat)
  | atOpen (b : Nat)
  deriving DecidableEq, Repr

/-- The number that a fault record keeps for the access (R64). -/
def AccessBlock.recorded : AccessBlock → Nat
  | .block b => b
  | .edge b => b
  | .atOpen b => b

/-- Whether the fault was a run's step past an edge (R64). -/
def AccessBlock.isEdge : AccessBlock → Bool
  | .edge _ => true
  | _ => false

/-- The key of a side is ABSENT (R63). -/
def Segment.keyAbsent (g : Segment) : Side → Bool
  | .load => g.loadKey == .absent
  | .print => g.printKey == .absent

/-- The fault flags of an access (R63): `write` is its kind. -/
def accessFlags (g : Segment) (side : Side) (write : Bool) (at_ : AccessBlock) : AccessFlags :=
  { nonResident := !g.resident || g.keyAbsent side,
    length :=
      match at_ with
      | .block b => g.resident && !g.authorizes b
      | .edge _ => true
      | .atOpen _ => false,
    readOnly := g.resident && side == .load && write && g.loadKey == .read }

/-- An access that sets any flag is refused (R63). -/
def AccessFlags.any (f : AccessFlags) : Bool := f.nonResident || f.length || f.readOnly

/-! ## The press (R50, R128) -/

/-- The pass class of a waiting list (R128). -/
def listClass : RackList → PassClass
  | .cureRush | .cureStd => .cure
  | .dryRush | .dryStd => .dry

/-- The list that a ticket's garment waits in; none where the press has nothing to do for it (R50). -/
def Ticket.rackList (t : Ticket) : Option RackList :=
  match t.disposition, t.stage, t.priority with
  | .good, .pretreated, .rush => some .dryRush
  | .good, .pretreated, .standard => some .dryStd
  | .good, .printed, .rush => some .cureRush
  | .good, .printed, .standard => some .cureStd
  | _, _, _ => none

/-- The credit and the target of a ticket in a pass class (R157). -/
def Ticket.credit (t : Ticket) : PassClass → Nat
  | .dry => t.dryCredit
  | .cure => t.cureCredit
def Ticket.target (t : Ticket) : PassClass → Option Nat
  | .dry => t.dryTarget
  | .cure => t.cureTarget

/-- The credit of the class is at or above its target (R157). -/
def Ticket.meetsTarget (t : Ticket) (c : PassClass) : Bool :=
  match t.target c with
  | some g => g ≤ t.credit c
  | none => false

/-! ## Notices and the status byte (R171, R176, R177) -/

/-- A kind, by its place in the priority order, is pending and enabled. -/
def PortState.newsAt (ps : PortState) (i : Fin 8) : Bool :=
  (ps.notices.get i).pending && ps.mask.getLsbD i.val

/-- The highest-priority kind that is pending and enabled (R178). -/
def PortState.firstNews (ps : PortState) : Option (Fin 8) := (List.finRange 8).find? ps.newsAt

/-- The attention condition: at least one enabled kind is pending (R177). -/
def PortState.attention (ps : PortState) : Bool := ps.firstNews.isSome

/-- The attention output of a port (R177). -/
def State.attention (s : State) (p : Port) : Bool := (s.ports.get p).attention

/-- The refusal reason's code in the status byte (section 11.2). -/
def refusalCode : RefusalReason → BitVec 3
  | .none => 0 | .check => 1 | .length => 2 | .unknown => 3 | .role => 4

/-- The result codes of section 11.2. -/
def Result.code : Result → BitVec 8
  | .ok => 0x00#8 | .clamped => 0x01#8 | .busy => 0x02#8 | .full => 0x03#8 | .notFound => 0x04#8
  | .badState => 0x05#8 | .inUse => 0x06#8 | .notReady => 0x07#8 | .duplicate => 0x08#8
  | .overlap => 0x09#8 | .locked => 0x0A#8 | .pass => 0x0B#8 | .skip => 0x0C#8 | .topup => 0x0D#8
  | .noMatch => 0x0E#8 | .late => 0x0F#8 | .fault => 0x10#8 | .none => 0xFF#8

/-- The status byte: FR, the reason, ATN, CO, and two bits that read 0 (section 11.2). -/
def statusByte (r : Reply) (atn co : Bool) : BitVec 8 :=
  (BitVec.ofBool r.fr ++ refusalCode r.reason ++ BitVec.ofBool atn ++ BitVec.ofBool co ++ 0#2 :
    BitVec (1 + 3 + 1 + 1 + 2))

/-- The 56 bits of a reply, its check field included (R169, R171). -/
def replyFrame (r : Reply) (atn co : Bool) : BitVec 56 :=
  let body : BitVec 48 := (statusByte r atn co ++ r.result.code ++ r.data : BitVec (8 + 8 + 32))
  (body ++ checkCode body : BitVec (48 + 8))

/-- The bit driven at the falling edge numbered `k` from the select assertion, counting from 0: the
latched reply most significant bit first, and 0 after the 56th bit (R168). -/
def replyBit (sent : Option (BitVec 56)) (k : Nat) : Bool :=
  match sent with
  | some f => decide (k < 56) && f.getLsbD (55 - k)
  | none => false

/-- The bits driven over the clock edges of a whole frame (R168). -/
def replyBits (sent : Option (BitVec 56)) : List Bool := (List.range 56).map (replyBit sent)

end Sys2Proof.Machine
end

