-- ==== Sys2Proof/Machine/Operands.lean ====
section
/-! DEFINITION. How fields stand in selectors, arguments, reply data and notice details: the packing
of R182, the encodings of section 11.4, and the numbers that name a platen, an artwork, a head, a bed
or a side. -/

namespace Sys2Proof.Machine

open Sys2Proof

/-! ## Packing (R182) -/

/-- A field to be packed: its width in bits, and its value. -/
abbrev Field := Nat × Nat

/-- Fields packed from bit 0 upward in the order of the list. -/
def pack : List Field → Nat
  | [] => 0
  | (w, v) :: rest => v % 2 ^ w + 2 ^ w * pack rest

/-- The 32-bit data word of packed fields; bits that no field occupies read 0. -/
def packWord (fs : List Field) : Word := BitVec.ofNat 32 (pack fs)

/-- The detail word of packed fields (section 11.4, Notices). -/
def packDetail (fs : List Field) : BitVec 28 := BitVec.ofNat 28 (pack fs)

/-- The fields that fit whole into `room` bits, and the rest (log 7). -/
def splitFields : Nat → List Field → List Field × List Field
  | _, [] => ([], [])
  | room, (w, v) :: rest =>
    if w ≤ room then ((w, v) :: (splitFields (room - w) rest).1, (splitFields (room - w) rest).2)
    else ([], (w, v) :: rest)

/-- The data of a group in the reply to a read command: bit 31 of the argument selects word 0 or
word 1 (R182). -/
def groupWord (arg : Arg) (fs : List Field) : Word :=
  if arg.getLsbD 31 then packWord (splitFields 32 fs).2 else packWord (splitFields 32 fs).1

/-- A flag or a mark: one bit, 1 for set. -/
def flag (b : Bool) : Field := (1, b.toNat)

/-- The value of a field of a word: `w` bits from bit `lo` up. -/
def bitsAt {n : Nat} (x : BitVec n) (lo w : Nat) : Nat := (x.extractLsb' lo w).toNat

/-- A field that names an entry of a table of a power of two. -/
def lineAt {n : Nat} (x : BitVec n) (lo : Nat) : LineIx := (x.extractLsb' lo 8).toFin
def artAt {n : Nat} (x : BitVec n) (lo : Nat) : ArtIx := (x.extractLsb' lo 6).toFin
def segAt {n : Nat} (x : BitVec n) (lo : Nat) : SegIx := (x.extractLsb' lo 4).toFin
def fabricAt {n : Nat} (x : BitVec n) (lo : Nat) : FabricIx := (x.extractLsb' lo 3).toFin

/-! ## Numbers that name something -/

/-- The platen of a number below the platen count (R39). -/
def State.platenOf (s : State) (n : Nat) : Option PlatenIx :=
  if h : n < 48 then (if n < s.params.platenCount then some ⟨n, h⟩ else none) else none

/-- The artwork entry of a number 0..63. -/
def artOf (n : Nat) : Option ArtIx := if h : n < 64 then some ⟨n, h⟩ else none

/-- The head of a number; none beyond 1. -/
def headOf : Nat → Option HeadId
  | 0 => some .h0
  | 1 => some .h1
  | _ => none

/-- The bed of a number: A 0, B 1 (section 11.4). -/
def bedOf : Nat → Option Bed
  | 0 => some .a
  | 1 => some .b
  | _ => none

/-- The side of a number: LOAD 0, PRINT 1 (R64, R182). -/
def sideOf : Nat → Option Side
  | 0 => some .load
  | 1 => some .print
  | _ => none

/-- The plane of a code: C 0 to W 4 (section 11.4). -/
def planeOf : Nat → Option Plane
  | 0 => some .c
  | 1 => some .m
  | 2 => some .y
  | 3 => some .k
  | 4 => some .w
  | _ => none

/-- The load key of a code: ABSENT 0 to READ_WRITE 2 (section 11.4). -/
def loadKeyOf : Nat → Option LoadKey
  | 0 => some .absent
  | 1 => some .read
  | 2 => some .readWrite
  | _ => none

/-- The waiting list of a code, in the order of R128. -/
def listOf : Nat → RackList
  | 0 => .cureRush
  | 1 => .cureStd
  | 2 => .dryRush
  | _ => .dryStd

/-- The head of a number that is present (R127). -/
def State.present (s : State) : HeadId → Bool
  | .h0 => true
  | .h1 => s.press.headsPresent == 2
def State.presentHead (s : State) (n : Nat) : Option HeadId :=
  match headOf n with
  | some h => if s.present h then some h else none
  | none => none

/-! ## Codes (R182: by position from 0, absent as 0; section 11.4 where it gives one) -/

def portCode : Port → Nat
  | .order => 0 | .pretreat => 1 | .print => 2 | .press => 3
def bedCode : Bed → Nat
  | .a => 0 | .b => 1
def headCode : HeadId → Nat
  | .h0 => 0 | .h1 => 1
def classCode : PassClass → Nat
  | .dry => 0 | .cure => 1
def planeCode : Plane → Nat
  | .c => 0 | .m => 1 | .y => 2 | .k => 3 | .w => 4
def listCode : RackList → Nat
  | .cureRush => 0 | .cureStd => 1 | .dryRush => 2 | .dryStd => 3
def shadeCode : Shade → Nat
  | .light => 0 | .dark => 1
/-- 1 RUSH, as the line specification places it (section 11.4; log 8). -/
def priorityCode : Priority → Nat
  | .standard => 0 | .rush => 1
def lineStateCode : LineState → Nat
  | .free => 0 | .open_ => 1 | .full => 2 | .done => 3 | .cancelled => 4
def stageCode : Stage → Nat
  | .bound => 0 | .pretreating => 1 | .pretreated => 2 | .primed => 3 | .printing => 4
  | .printed => 5 | .cured => 6
def dispositionCode : Disposition → Nat
  | .good => 0 | .spoiled => 1 | .void => 2
def reasonCode : Option SpoilReason → Nat
  | none => 0
  | some .underdose => 1 | some .underdried => 2 | some .printFailed => 3 | some .scorched => 4
  | some .undercured => 5 | some .headRetries => 6 | some .pulled => 7
/-- The location codes of section 11.2. -/
def locationCode : Location → Nat
  | .loadZone => 0 | .transit => 1 | .pretreatQueue => 2 | .pretreatSlot => 3 | .printQueue => 4
  | .bed which => 5 + bedCode which
  | .rack l => 7 + listCode l
  | .head h => 11 + headCode h
def artStateCode : ArtState → Nat
  | .free => 0 | .loading => 1 | .preflight => 2 | .ready => 3
def directionCode : Direction → Nat
  | .up => 0 | .down => 1
def loadKeyCode : LoadKey → Nat
  | .absent => 0 | .read => 1 | .readWrite => 2
def printKeyCode : PrintKey → Nat
  | .absent => 0 | .read => 1
/-- The five origins of R64 in the order in which it lists them (log 10). -/
def originCode : FaultOrigin → Nat
  | .runOpen => 0 | .runBlock => 1 | .readWord => 2 | .stripeOpen => 3 | .stripeBlock => 4
def modeCode : PreflightMode → Nat
  | .full => 0 | .incremental => 1
def runDirCode : RunDir → Nat
  | .asc => 0 | .desc => 1
def headStateCode : HeadState → Nat
  | .free => 0 | .parked => 1 | .assigned => 2 | .closed => 3 | .releasing => 4 | .isolated => 5
  | .declining => 6
def outcomeCode : PressOutcome → Nat
  | .transit => 0 | .return_ => 1
def timerCode : Option Timer → Nat
  | none => 0
  | some ⟨.close, _⟩ => 1 | some ⟨.sample, _⟩ => 2 | some ⟨.release, _⟩ => 3 | some ⟨.park, _⟩ => 4
def assignmentCode : Option Assignment → Nat
  | none => 0
  | some (.closeOn _ _ _ _) => 1 | some .release => 2 | some (.park _ _) => 3
  | some (.setpoint _) => 4
def moveDirCode : MoveDir → Nat
  | .none => 0 | .up => 1 | .down => 2 | .hold => 3
def level1Code : Level1 → Nat
  | .cureRush => 0 | .cureStd => 1 | .dryGroup => 2
def level2Code : Level2 → Nat
  | .dryRush => 0 | .dryStd => 1
def arbModeCode : ArbMode → Nat
  | .rotate => 0 | .fixed => 1
def matchPolicyCode : MatchPolicy → Nat
  | .rushFirst => 0 | .ageOnly => 1
def parkPolicyCode : ParkPolicy → Nat
  | .last => 0 | .default_ => 1

/-- A map of 16 segments: bit s for segment s (R78). DEDUCED (log 28). -/
def segMap (t : Table Segment 16) (p : Segment → Bool) : Nat :=
  pack (t.cells.map fun g => flag (p g))

/-! ## The line specification word (section 11.4, POST_LINE) -/

/-- The fields of a specification word. -/
structure LineSpec where
  style    : BitVec 10
  size     : BitVec 4
  colour   : BitVec 7
  fabric   : FabricIx
  shade    : Shade
  priority : Priority
  artwork  : ArtIx
  deriving DecidableEq, Repr

/-- A specification word read as fields. -/
def lineSpec (w : Word) : LineSpec :=
  { style := w.extractLsb' 22 10, size := w.extractLsb' 18 4, colour := w.extractLsb' 11 7,
    fabric := fabricAt w 8, shade := if w.getLsbD 7 then .dark else .light,
    priority := if w.getLsbD 6 then .rush else .standard, artwork := artAt w 0 }

/-- The specification word of a line, in the layout in which it was posted. -/
def OrderLine.specFields (l : OrderLine) : List Field :=
  [(6, l.artwork.val), (1, priorityCode l.priority), (1, shadeCode l.shade), (3, l.fabric.val),
   (7, l.colour.toNat), (4, l.size.toNat), (10, l.style.toNat)]

/-! ## Segment arguments (section 11.4, SEGMENT_SET) -/

/-- The descriptor that a SEGMENT_SET's argument and base name; none where the plane or the load key
encodes no value. -/
def segmentOfArg (arg : Arg) (base : Nat) : Option Segment :=
  match planeOf (bitsAt arg 16 3), loadKeyOf (bitsAt arg 14 2) with
  | some pl, some lk =>
    some { resident := true, base := base, len := bitsAt arg 20 8,
           dir := if arg.getLsbD 19 then .down else .up, plane := pl, loadKey := lk,
           printKey := if arg.getLsbD 13 then .read else .absent,
           written := false, valid := false, sum := 0 }
  | _, _ => none

/-- The TAKE_ASSIGNMENT data of an assignment (section 11.4, Assignments). -/
def assignmentFields : Assignment → List Field
  | .closeOn p c sp ch => [(16, p.val), (8, sp), (3, 0), (1, classCode c), flag ch, (3, 1)]
  | .release => [(29, 0), (3, 2)]
  | .park c sp => [(16, 0), (8, sp), (3, 0), (1, classCode c), (1, 0), (3, 3)]
  | .setpoint sp => [(16, 0), (8, sp), (5, 0), (3, 4)]

end Sys2Proof.Machine
end

