-- ==== Sys2Proof/Machine/Ops.lean ====
section
/-! DEFINITION. The named operations over State that the commands share: the store, notices, answers,
the taking and refusing of frames, and the records of order lines, platens, tickets, artworks and
segments. -/

namespace Sys2Proof.Machine

open Sys2Proof

/-! ## The Artwork Store (R57) -/

/-- The canonical form: block numbers strictly rising, all of them blocks that the store has. -/
abbrev Memory.wf (m : Memory) : Prop :=
  m.Pairwise (fun a b => a.1 < b.1) ∧ ∀ c ∈ m, c.1 < Config.storeBlocks

/-- A block put at its place in the rising order. -/
def Memory.insert : Memory → Nat → Block → Memory
  | [], b, x => [(b, x)]
  | (c, y) :: rest, b, x =>
    if b < c then (b, x) :: (c, y) :: rest
    else if b = c then (b, x) :: rest
    else (c, y) :: Memory.insert rest b x

/-- A store block written whole (R57). A number that the store does not have is written nowhere; no
authorized range reaches one (R68, check 6; log 15). -/
def Memory.write (m : Memory) (b : Nat) (x : Block) : Memory :=
  if b < Config.storeBlocks then Memory.insert m b x else m

/-- The contents of a block that has been written since power-on. -/
def Memory.block : Memory → Nat → Option Block
  | [], _ => none
  | (c, y) :: rest, b => if c = b then some y else Memory.block rest b

/-- The word `w` of store block `b`: the value last written to it, or the free value of a word that
holds no defined value (R57; log 4). -/
def State.storeWord (s : State) (b : Nat) (w : Fin Config.blockWords) : Word :=
  match Memory.block s.store b with
  | some x => x.get w
  | none => Config.unwrittenWord s.powerOns b w.val

/-- The 1024 words of a store block, in order. -/
def State.storeBlock (s : State) (b : Nat) : List Word :=
  (List.finRange Config.blockWords).map (s.storeWord b)

/-! ## Records -/

def State.modifyPort (s : State) (p : Port) (f : PortState → PortState) : State :=
  { s with ports := s.ports.modify p f }
def State.modifyLine (s : State) (i : LineIx) (f : OrderLine → OrderLine) : State :=
  { s with lines := s.lines.modify i f }
def State.modifyPlaten (s : State) (i : PlatenIx) (f : Platen → Platen) : State :=
  { s with platens := s.platens.modify i f }
def State.modifyArtwork (s : State) (i : ArtIx) (f : Artwork → Artwork) : State :=
  { s with artworks := s.artworks.modify i f }
def State.modifyHead (s : State) (h : HeadId) (f : Head → Head) : State :=
  { s with heads := s.heads.modify h f }
def State.modifyThermal (s : State) (h : HeadId) (f : Thermal → Thermal) : State :=
  { s with thermal := s.thermal.modify h f }
def State.modifyBed (s : State) (bed : Bed) (f : Session → Session) : State :=
  { s with beds := s.beds.modify bed f }

/-- One segment descriptor, and its change. -/
def State.segment (s : State) (a : ArtIx) (g : SegIx) : Segment := (s.artworks.get a).segs.get g
def State.modifySegment (s : State) (a : ArtIx) (g : SegIx) (f : Segment → Segment) : State :=
  s.modifyArtwork a fun e => { e with segs := e.segs.modify g f }

/-- The ticket on a platen, and its change; a platen without a ticket is left as it is. -/
def State.ticket (s : State) (i : PlatenIx) : Option Ticket := (s.platens.get i).ticket
def State.modifyTicket (s : State) (i : PlatenIx) (f : Ticket → Ticket) : State :=
  s.modifyPlaten i fun r => { r with ticket := r.ticket.map f }

/-- A platen's location, and its change (R42). -/
def State.location (s : State) (i : PlatenIx) : Location := (s.platens.get i).location
def State.setLocation (s : State) (i : PlatenIx) (l : Location) : State :=
  s.modifyPlaten i fun r => { r with location := l }

/-! ## Notices (R176) -/

/-- The notice kinds of R176, each of one port. -/
inductive NoticeKind where
  | faultLoad | headIsolated | garmentSpoiled | lineDone | loadRunEnd | preflightEnd | misroute
  | voidedPretreat
  | faultPrint | stripeEnd (bed : Bed) | voidedPrint
  | assignment (h : HeadId)
  | lineCleared (p : Port)
  deriving DecidableEq, Repr

/-- The port whose set holds the kind. -/
def NoticeKind.port : NoticeKind → Port
  | .faultLoad | .headIsolated | .garmentSpoiled | .lineDone | .loadRunEnd | .preflightEnd
  | .misroute => .order
  | .voidedPretreat => .pretreat
  | .faultPrint | .stripeEnd _ | .voidedPrint => .print
  | .assignment _ => .press
  | .lineCleared p => p

/-- The kind's place in its port's priority order, highest first (R176). -/
def NoticeKind.index : NoticeKind → Fin 8
  | .faultLoad => 0 | .headIsolated => 1 | .garmentSpoiled => 2 | .lineDone => 3
  | .loadRunEnd => 4 | .preflightEnd => 5 | .misroute => 6
  | .voidedPretreat => 0
  | .faultPrint => 0 | .stripeEnd .a => 1 | .stripeEnd .b => 2 | .voidedPrint => 3
  | .assignment .h0 => 0 | .assignment .h1 => 1
  | .lineCleared .order => 7 | .lineCleared .pretreat => 1 | .lineCleared .print => 4
  | .lineCleared .press => 2

/-- The entry of a kind. -/
def State.notice (s : State) (k : NoticeKind) : Notice := (s.ports.get k.port).notices.get k.index

def State.setNotice (s : State) (k : NoticeKind) (n : Notice) : State :=
  s.modifyPort k.port fun ps => { ps with notices := ps.notices.set k.index n }

/-- Raising a kind: the pending mark is set and the detail replaced (R176). -/
def State.raise (s : State) (k : NoticeKind) (detail : List Field) : State :=
  s.setNotice k ⟨true, packDetail detail⟩

/-! ## The assignment mailbox (R133, R134) -/

/-- A mailbox slot given new contents; ASSIGNMENT_h is pending while it is non-empty, its detail
naming the kind and the head (R134). DESIGN CHOICE (log 26): the detail is 0 once the slot is empty. -/
def State.setMailbox (s : State) (h : HeadId) (m : Option Assignment) : State :=
  let s1 := s.modifyHead h fun d => { d with mailbox := m }
  match m with
  | none => s1.setNotice (.assignment h) ⟨false, 0⟩
  | some _ => s1.raise (.assignment h) [(3, assignmentCode m), (5, 0), (1, headCode h)]

/-- What a slot holds after a posting (R133). -/
def mergePost (held : Option Assignment) (posted : Assignment) : Option Assignment :=
  match held, posted with
  | none, p => some p
  | some (.closeOn _ _ _ _), .closeOn p c sp ch => some (.closeOn p c sp ch)
  | some (.closeOn _ _ _ _), .release => none
  | some (.closeOn p c sp ch), .park _ _ => some (.closeOn p c sp ch)
  | some (.closeOn p c _ ch), .setpoint v => some (.closeOn p c v ch)
  | some .release, _ => some .release
  | some (.park c _), .setpoint v => some (.park c v)
  | some (.park _ _), p => some p
  | some (.setpoint _), p => some p

/-- Posting an assignment into a head's slot (R133). -/
def State.post (s : State) (h : HeadId) (a : Assignment) : State :=
  s.setMailbox h (mergePost (s.heads.get h).mailbox a)

/-! ## Order lines -/

/-- A line changed, its state derived again (R2), and LINE_DONE raised when it enters DONE (R8). -/
def State.updateLine (s : State) (i : LineIx) (f : OrderLine → OrderLine) : State :=
  let new := (f (s.lines.get i)).rederive
  let s1 := { s with lines := s.lines.set i new }
  if new.state = .done ∧ (s.lines.get i).state ≠ .done then
    s1.raise .lineDone [(8, i.val), (3, new.lineNo.toNat), (1, 0), (4, new.finished)]
  else s1

/-! ## Tickets -/

/-- A spoil decision (R26): a GOOD ticket becomes SPOILED with the reason, and GARMENT_SPOILED is
raised; any other ticket is left as it is. -/
def State.spoil (s : State) (i : PlatenIx) (why : SpoilReason) : State :=
  match s.ticket i with
  | some t =>
    if t.disposition = .good then
      (s.modifyTicket i fun t => { t with disposition := .spoiled, reason := some why }).raise
        .garmentSpoiled [(6, i.val), (2, 0), (8, t.line.val), (3, reasonCode (some why))]
    else s
  | none => s

/-- A stage transition of R24: applied to a GOOD ticket that stands at the stage it starts from. -/
def Ticket.advance (t : Ticket) (start goal : Stage) : Ticket :=
  if t.disposition = .good ∧ t.stage = start then { t with stage := goal } else t

/-! ## Artworks (R59) -/

/-- An artwork leaving READY for a change: LOADING, with the ink-load valid mark cleared; an artwork
at any other state is left as it is. -/
def Artwork.leaveReady (e : Artwork) : Artwork :=
  if e.state = .ready then { e with state := .loading, inkValid := false } else e

/-- A load run is open on the artwork, or a preflight is running on it. -/
def State.loadRunOn (s : State) (a : ArtIx) : Bool :=
  match s.loadRun with
  | some r => r.artwork == a
  | none => false
def State.preflightOn (s : State) (a : ArtIx) : Bool := s.engine.running && s.engine.artwork == a

/-! ## Access faults (R64) -/

/-- The notice kind of a side's faults. -/
def faultKind : Side → NoticeKind
  | .load => .faultLoad
  | .print => .faultPrint

/-- A refused access recorded: an empty record freezes and its notice is raised; a frozen one only
gains OVERRUN. -/
def State.recordFault (s : State) (side : Side) (flags : AccessFlags) (origin : FaultOrigin)
    (a : ArtIx) (g : SegIx) (at_ : AccessBlock) (bed : Bed) : State :=
  let r := s.faults.get side
  if r.frozen then { s with faults := s.faults.set side { r with overrun := true } }
  else
    let new : FaultRecord :=
      { frozen := true, flags := flags, origin := origin, artwork := a, segment := g,
        block := at_.recorded, edge := at_.isEdge, bed := bed, overrun := false }
    ({ s with faults := s.faults.set side new }).raise (faultKind side)
      [(8, at_.recorded), (4, g.val), (6, a.val), flag flags.readOnly, flag flags.length,
       flag flags.nonResident, (1, bedCode bed)]

/-! ## Answers -/

/-- A command's meaning at its owning block: its answer, and the state it leaves. -/
abbrev Body := State → Answer × State

/-- An answer with packed data. -/
def answer (r : Result) (fs : List Field) : Answer := ⟨r, packWord fs⟩

/-- An answer with data 0. -/
def answer0 (r : Result) : Answer := ⟨r, 0⟩

/-! ## Taking a frame (R168, R170, R171, R173) -/

/-- A select assertion (R168): edge count 0, no bits held, and the pending reply latched for shifting
out from its first bit, its status byte completed with ATN and CO (R171). -/
def State.assertSelect (s : State) (p : Port) : State :=
  s.modifyPort p fun ps =>
    { ps with
      selectAsserted := true,
      receiver := some Receiver.start,
      sent := some (replyFrame ps.reply ps.attention s.commissioningOpen),
      driven := [] }

/-- The state in which a frame that now ends is judged; none where the release of select ends no
frame, because a full reset found select asserted (R168). With select released and the receiver idle
the whole frame, its assertion first, is the command's (log 3). -/
def State.openFrame (s : State) (p : Port) : Option State :=
  let ps := s.ports.get p
  match ps.receiver with
  | some _ => some s
  | none => if ps.selectAsserted then none else some (s.assertSelect p)

/-- One clock cycle of a frame in progress: the rising edge shifts a request bit in, the falling edge
drives the next reply bit (R168; log 3). -/
def PortState.clock (ps : PortState) (bit : Bool) : PortState :=
  { ps with receiver := ps.receiver.map fun r => r.edge bit
            driven := ps.driven ++ [replyBit ps.sent ps.driven.length] }

/-- The 56 reply bits of a whole frame driven out (R168). -/
def State.driveReply (s : State) (p : Port) : State :=
  s.modifyPort p fun ps => { ps with driven := replyBits ps.sent }

/-- The release of select: the receiver is idle again. -/
def State.releaseSelect (s : State) (p : Port) : State :=
  s.modifyPort p fun ps => { ps with selectAsserted := false, receiver := none }

/-- The end of a frame with the reply it leaves pending (R171). -/
def State.endFrame (s : State) (p : Port) (r : Reply) : State :=
  s.modifyPort p fun ps => { ps with selectAsserted := false, receiver := none, reply := r }

/-- The end of a taken frame: its 56 reply bits have been driven out, the answer is pending, and the
extension word is as `ext` gives. -/
def State.finish (s : State) (p : Port) (a : Answer) (ext : Option Word) : State :=
  s.modifyPort p fun ps =>
    { ps with selectAsserted := false, receiver := none, driven := replyBits ps.sent,
              reply := ⟨false, .none, a.result, a.data⟩, ext := ext }

/-- The end of a refused frame (R170): FR, the reason, result NONE, data 0; the extension word and
everything else stand. -/
def State.refuseFrame (s : State) (p : Port) (why : RefusalReason) : State :=
  s.endFrame p ⟨true, why, .none, 0⟩

/-- A command frame on a port: refused with ROLE where the port does not accept the command (R170,
R172); otherwise taken: its block carries it out, the extension word is invalid afterwards (R173),
and the answer is the port's pending reply (R171). -/
def takeFrame (c : Cmd) (p : Port) (body : Body) (s : State) : Host.Outcome State Fault Refusal :=
  match s.openFrame p with
  | none => .next (s.releaseSelect p)
  | some s1 =>
    if c.acceptedOn p then .next ((body s1).2.finish p (body s1).1 none)
    else .next ((s1.driveReply p).refuseFrame p .role)

/-- The extension word of a port. -/
def State.ext (s : State) (p : Port) : Option Word := (s.ports.get p).ext

end Sys2Proof.Machine
end

