-- ==== Sys2Proof/Machine/Artworks.lean ====
section
/-! DEFINITION. The Artwork Directory, the Translator, the fault records, load runs and reading back
(spec/04). -/

namespace Sys2Proof.Machine

open Sys2Proof

/-! ## Entries and descriptors (R67 to R71) -/

/-- The entry of a selector that names one and is not FREE. -/
def State.artInUse (s : State) (n : Nat) : Option ArtIx :=
  match artOf n with
  | some a => if (s.artworks.get a).state = .free then none else some a
  | none => none

/-- ARTWORK_OPEN (R67). -/
def bodyArtworkOpen (sel : Selector) : Body := fun s =>
  match artOf sel.toNat with
  | none => (answer0 .notFound, s)
  | some a =>
    if (s.artworks.get a).state = .free then
      (answer0 .ok, s.modifyArtwork a fun _ => { Artwork.free with state := .loading })
    else (answer0 .badState, s)

def execArtworkOpen (sel : Selector) (s : State) : Host.Outcome State Fault Refusal :=
  takeFrame .artworkOpen .order (bodyArtworkOpen sel) s

/-- Some resident segment other than the one being replaced overlaps the new range (R68, check 7). -/
def State.overlapsOther (s : State) (a : ArtIx) (g : SegIx) (new : Segment) : Bool :=
  (List.finRange 64).any fun a' => (List.finRange 16).any fun g' =>
    (s.segment a' g').resident && !(a' == a && g' == g) && new.overlaps (s.segment a' g')

/-- The base and the range lie in the store (R68, check 6). -/
def Segment.inStore (g : Segment) : Bool :=
  decide (g.base < Config.storeBlocks) && decide (g.lastStore < Config.storeBlocks)

/-- SEGMENT_SET's effect (R69). -/
def State.setSegment (s : State) (a : ArtIx) (g : SegIx) (new : Segment) : State :=
  (s.modifySegment a g fun _ => new).modifyArtwork a Artwork.leaveReady

/-- SEGMENT_SET (R68, R69). -/
def bodySegmentSet (sel : Selector) (arg : Arg) : Body := fun s =>
  match s.ext .order with
  | none => (answer0 .badState, s)
  | some w =>
    match s.artInUse sel.toNat with
    | none => (answer0 .notFound, s)
    | some a =>
      match segmentOfArg arg w.toNat with
      | none => (answer0 .notFound, s)
      | some new =>
        let g := segAt arg 28
        if (s.artworks.get a).tickets ≠ 0 then (answer0 .inUse, s)
        else if s.loadRunOn a || s.preflightOn a then (answer0 .busy, s)
        else if new.inStore = false then (answer0 .notFound, s)
        else if s.overlapsOther a g new then (answer0 .overlap, s)
        else
          (answer .ok [(17, new.firstStore), (7, 0), (8, new.blockCount - 1)], s.setSegment a g new)

def execSegmentSet (sel : Selector) (arg : Arg) (s : State) : Host.Outcome State Fault Refusal :=
  takeFrame .segmentSet .order (bodySegmentSet sel arg) s

/-- SEGMENT_DROP (R70): the segment in bits 3..0 of the argument (R182). -/
def bodySegmentDrop (sel : Selector) (arg : Arg) : Body := fun s =>
  match s.artInUse sel.toNat with
  | none => (answer0 .notFound, s)
  | some a =>
    let g := segAt arg 0
    if (s.artworks.get a).tickets ≠ 0 then (answer0 .inUse, s)
    else if s.loadRunOn a || s.preflightOn a then (answer0 .busy, s)
    else if (s.segment a g).resident = false then (answer0 .badState, s)
    else (answer0 .ok, s.setSegment a g Segment.nonResident)

def execSegmentDrop (sel : Selector) (arg : Arg) (s : State) : Host.Outcome State Fault Refusal :=
  takeFrame .segmentDrop .order (bodySegmentDrop sel arg) s

/-- ARTWORK_DELETE (R71). -/
def bodyArtworkDelete (sel : Selector) : Body := fun s =>
  match s.artInUse sel.toNat with
  | none => (answer0 .notFound, s)
  | some a =>
    if (s.artworks.get a).lines ≠ 0 ∨ (s.artworks.get a).tickets ≠ 0 then (answer0 .inUse, s)
    else if s.loadRunOn a || s.preflightOn a then (answer0 .busy, s)
    else (answer0 .ok, s.modifyArtwork a fun _ => Artwork.free)

def execArtworkDelete (sel : Selector) (s : State) : Host.Outcome State Fault Refusal :=
  takeFrame .artworkDelete .order (bodyArtworkDelete sel) s

/-! ## Load runs (R72 to R76) -/

/-- LOAD_RUN (R72): segment, first block and count minus 1 as section 11.4 places them. -/
def bodyLoadRun (sel : Selector) (arg : Arg) : Body := fun s =>
  match s.artInUse sel.toNat with
  | none => (answer0 .notFound, s)
  | some a =>
    let g := segAt arg 28
    let first := bitsAt arg 20 8
    let count := bitsAt arg 12 8 + 1
    let flags := accessFlags (s.segment a g) .load true (.atOpen first)
    if (s.artworks.get a).tickets ≠ 0 then (answer0 .inUse, s)
    else if s.loadRun.isSome || s.preflightOn a then (answer0 .busy, s)
    else if flags.any then
      (answer0 .fault, s.recordFault .load flags .runOpen a g (.atOpen first) .a)
    else
      (answer0 .ok,
        ({ s with loadRun := some ⟨a, g, first, count, 0⟩ }).modifyArtwork a Artwork.leaveReady)

def execLoadRun (sel : Selector) (arg : Arg) (s : State) : Host.Outcome State Fault Refusal :=
  takeFrame .loadRun .order (bodyLoadRun sel arg) s

/-- Outcomes of a load run (R75), by their code in the notice (section 11.4). -/
inductive LoadOutcome where
  | complete | lengthFault | linkError | aborted
  deriving DecidableEq, Repr

def loadOutcomeCode : LoadOutcome → Nat
  | .complete => 0 | .lengthFault => 1 | .linkError => 2 | .aborted => 3

/-- The end of the load run (R75). A block in progress then belongs to no open run (R73, R76). -/
def State.endLoadRun (s : State) (r : LoadRun) (o : LoadOutcome) : State :=
  ({ s with loadRun := none
            loadBlock := s.loadBlock.map fun b => { b with inRun := false } } : State).raise .loadRunEnd
    [(9, r.written), (1, 0), (2, loadOutcomeCode o), (4, r.segment.val), (6, r.artwork.val)]

/-- LOAD_ABORT (R76). -/
def bodyLoadAbort : Body := fun s =>
  match s.loadRun with
  | none => (answer0 .none, s)
  | some r => (answer .ok [(9, r.written)], s.endLoadRun r .aborted)

def execLoadAbort (s : State) : Host.Outcome State Fault Refusal :=
  takeFrame .loadAbort .order bodyLoadAbort s

/-- The check word of a block: the sum of its data words modulo 2^32 (section 4.8). -/
def checkSum (ws : List Word) : Word := ws.foldl (· + ·) 0

/-- The judgement of a good block as step k of an open run (R74). -/
def State.judgeGood (s : State) (r : LoadRun) (b : Block) : State :=
  let n := r.first + r.written
  let seg := s.segment r.artwork r.segment
  let at_ : AccessBlock := if 255 < n then .edge 255 else .block n
  let flags := accessFlags seg .load true at_
  if flags.any then
    (s.recordFault .load flags .runBlock r.artwork r.segment at_ .a).endLoadRun r .lengthFault
  else
    let s1 := { s with store := Memory.write s.store (seg.base + n) b }
    let s2 := s1.modifySegment r.artwork r.segment fun g => { g with written := true }
    let r2 := { r with written := r.written + 1 }
    if r2.written = r2.count then s2.endLoadRun r2 .complete else { s2 with loadRun := some r2 }

/-- The judgement of a bad block (R73, R74). A block that belongs to no open run is discarded. -/
def State.judgeBad (s : State) (b : LoadBlock) : State :=
  match s.loadRun with
  | some r => if b.inRun then s.endLoadRun r .linkError else s
  | none => s

/-- The judgement of a block whose check word has arrived (R73, R74). -/
def State.judgeComplete (s : State) (b : LoadBlock) (check : Word) : State :=
  match s.loadRun with
  | some r =>
    if b.inRun then
      if h : b.words.length = Config.blockWords ∧ checkSum b.words = check then
        s.judgeGood r ⟨b.words, h.1⟩
      else s.endLoadRun r .linkError
    else s
  | none => s

/-- A start marker begins a block, which belongs to the load run that is open now (R73). -/
def State.beginBlock (s : State) : State :=
  { s with loadBlock := some ⟨[], s.loadRun.isSome⟩ }

/-- One word taken on the load link (R73, R183). Outside a block every word but a start marker is
discarded. In a block, data words are held until the check word completes it; any other word ends it
early as a bad block, and a start marker then begins a new one. -/
def State.linkWord (s : State) (w : LinkWord) : State :=
  match s.loadBlock with
  | none =>
    match w with
    | .control .start => s.beginBlock
    | _ => s
  | some b =>
    let out : State := { s with loadBlock := none }
    match w with
    | .data x =>
      if b.words.length < Config.blockWords then
        { s with loadBlock := some { b with words := b.words ++ [x] } }
      else out.judgeComplete b x
    | .control .start => (out.judgeBad b).beginBlock
    | _ => out.judgeBad b

/-- LOAD_LINK_BLOCK (R73, R74, R183): the words as they arrive. -/
def execLoadLinkBlock (first : LinkWord) (more : List LinkWord) (s : State) :
    Host.Outcome State Fault Refusal :=
  .next (more.foldl State.linkWord (s.linkWord first))

/-! ## Reading back (R77, R78) -/

/-- READ_WORD (R77): segment in bits 3..0, block in 11..4, word in 21..12 (R182). -/
def bodyReadWord (sel : Selector) (arg : Arg) : Body := fun s =>
  match s.artInUse sel.toNat with
  | none => (answer0 .notFound, s)
  | some a =>
    let g := segAt arg 0
    let b := bitsAt arg 4 8
    let w : Fin Config.blockWords := (arg.extractLsb' 12 10).toFin
    let flags := accessFlags (s.segment a g) .load false (.block b)
    if flags.any then (answer0 .fault, s.recordFault .load flags .readWord a g (.block b) .a)
    else (⟨.ok, s.storeWord ((s.segment a g).base + b) w⟩, s)

def execReadWord (sel : Selector) (arg : Arg) (s : State) : Host.Outcome State Fault Refusal :=
  takeFrame .readWord .order (bodyReadWord sel arg) s

/-- The groups of READ_ARTWORK (R78): STATE 0, RESIDENT 1, VALID 2, DESC 3 with its segment in bits
9..6 of the argument (R182). -/
def artworkGroup (s : State) (a : ArtIx) (g : SegIx) : Nat → Option (List Field)
  | 0 =>
    let e := s.artworks.get a
    some [(2, artStateCode e.state), flag e.inkValid, (9, e.lines), (6, e.tickets),
          flag (s.loadRunOn a), flag (s.preflightOn a)]
  | 1 =>
    let e := s.artworks.get a
    some [(16, segMap e.segs Segment.resident), (16, segMap e.segs Segment.written)]
  | 2 =>
    let e := s.artworks.get a
    some [(16, segMap e.segs Segment.valid), (16, segMap e.segs fun g => g.printKey == .read)]
  | 3 =>
    let d := s.segment a g
    some [(17, d.base), (8, d.len), (1, directionCode d.dir), (3, planeCode d.plane),
          (2, loadKeyCode d.loadKey), (1, printKeyCode d.printKey)]
  | _ => none

/-- READ_ARTWORK (R78). -/
def bodyReadArtwork (sel : Selector) (arg : Arg) : Body := fun s =>
  match artOf (bitsAt arg 0 6) with
  | none => (answer0 .notFound, s)
  | some a =>
    match artworkGroup s a (segAt arg 6) sel.toNat with
    | none => (answer0 .notFound, s)
    | some fs => (⟨.ok, groupWord arg fs⟩, s)

def execReadArtwork (p : Port) (sel : Selector) (arg : Arg) (s : State) :
    Host.Outcome State Fault Refusal :=
  takeFrame .readArtwork p (bodyReadArtwork sel arg) s

/-! ## Fault records (R65, R66) -/

/-- CLEAR_FAULT (R65). -/
def bodyClearFault (sel : Selector) : Body := fun s =>
  match sideOf sel.toNat with
  | none => (answer0 .notFound, s)
  | some side =>
    let r := s.faults.get side
    if r.frozen then
      (answer .ok [flag r.flags.nonResident, flag r.flags.length, flag r.flags.readOnly,
                   flag r.overrun],
        { s with faults := s.faults.set side FaultRecord.empty })
    else (answer0 .none, s)

def execClearFault (p : Port) (sel : Selector) (s : State) : Host.Outcome State Fault Refusal :=
  takeFrame .clearFault p (bodyClearFault sel) s

/-- The fields of a fault record in the order of R64. -/
def faultFields (r : FaultRecord) : List Field :=
  [flag r.frozen, flag r.flags.nonResident, flag r.flags.length, flag r.flags.readOnly,
   (3, originCode r.origin), (6, r.artwork.val), (4, r.segment.val), (8, r.block), flag r.edge,
   (1, bedCode r.bed), flag r.overrun]

/-- READ_FAULT (R66). -/
def bodyReadFault (sel : Selector) (arg : Arg) : Body := fun s =>
  match sideOf sel.toNat with
  | none => (answer0 .notFound, s)
  | some side =>
    let r := s.faults.get side
    if r.frozen then (⟨.ok, groupWord arg (faultFields r)⟩, s) else (answer0 .none, s)

def execReadFault (p : Port) (sel : Selector) (arg : Arg) (s : State) :
    Host.Outcome State Fault Refusal :=
  takeFrame .readFault p (bodyReadFault sel arg) s

end Sys2Proof.Machine
end

