-- ==== Sys2Proof/Machine/Arbiter.lean ====
section
/-! DEFINITION. The Press Arbiter's shared work: parameters in ticks, waiting lists, selection and
grants (R129 to R132), how a head lets its platen go and becomes FREE or DECLINING (R125, R137), the
park timer and parking (R142), and the cycle record's end (R152, R162). -/

namespace Sys2Proof.Machine

open Sys2Proof

/-- Ticks of 1 ms in a second and in 100 ms (R125, R126). -/
def ticksPerSecond : Nat := 1000
def ticksPer100ms : Nat := 100

/-! ## Lists -/

def State.setList (s : State) (l : RackList) (q : List PlatenIx) : State :=
  { s with lists := s.lists.set l q }

/-- A platen joins a list at the tail (an ARRIVE) or at the head (a return); its location is RACK
with that list (R41, R128). -/
def State.joinTail (s : State) (l : RackList) (p : PlatenIx) : State :=
  (s.setList l (s.lists.get l ++ [p])).setLocation p (.rack l)
def State.joinHead (s : State) (l : RackList) (p : PlatenIx) : State :=
  (s.setList l (p :: s.lists.get l)).setLocation p (.rack l)

/-- A platen taken out of a list from wherever it stands; the entries behind it close up (R128). -/
def State.leaveList (s : State) (l : RackList) (p : PlatenIx) : State :=
  s.setList l ((s.lists.get l).erase p)

/-! ## Selection (R129, R130) -/

/-- The DRY list that level 2 selects. -/
def selectDry (s : State) : Option RackList :=
  let r := !s.lists.dryRush.isEmpty
  let d := !s.lists.dryStd.isEmpty
  match s.level2 with
  | .dryRush => if d then some .dryStd else if r then some .dryRush else none
  | .dryStd => if r then some .dryRush else if d then some .dryStd else none

/-- The list selected in ROTATE mode: level 1 starts after its pointer (R129). -/
def selectRotate (s : State) : Option RackList :=
  let cr : Option RackList := if s.lists.cureRush.isEmpty then none else some .cureRush
  let cs : Option RackList := if s.lists.cureStd.isEmpty then none else some .cureStd
  let dg := selectDry s
  match s.level1 with
  | .cureRush => cs.or (dg.or cr)
  | .cureStd => dg.or (cr.or cs)
  | .dryGroup => cr.or (cs.or dg)

/-- The list selected in FIXED mode: the first non-empty one (R130). -/
def selectFixed (s : State) : Option RackList :=
  if !s.lists.cureRush.isEmpty then some .cureRush
  else if !s.lists.cureStd.isEmpty then some .cureStd
  else if !s.lists.dryRush.isEmpty then some .dryRush
  else if !s.lists.dryStd.isEmpty then some .dryStd
  else none

/-- The selected list; none where every list is empty. -/
def selectList (s : State) : Option RackList :=
  match s.press.mode with
  | .rotate => selectRotate s
  | .fixed => selectFixed s

/-- The pointers after a grant from a list, in ROTATE mode (R129). -/
def State.movePointers (s : State) (l : RackList) : State :=
  match s.press.mode with
  | .fixed => s
  | .rotate =>
    match l with
    | .cureRush => { s with level1 := .cureRush }
    | .cureStd => { s with level1 := .cureStd }
    | .dryRush => { s with level1 := .dryGroup, level2 := .dryRush }
    | .dryStd => { s with level1 := .dryGroup, level2 := .dryStd }

/-! ## Grants (R131, R132) -/

/-- A head is eligible: present, FREE or PARKED, and no RELEASE in its mailbox (R131). -/
def State.eligible (s : State) (h : HeadId) : Bool :=
  s.present h &&
    ((s.heads.get h).state == .free || (s.heads.get h).state == .parked) &&
    (s.heads.get h).mailbox != some .release

/-- The head chosen for a list's class: one of that class first, head 0 between equals (R131). -/
def chooseHead (s : State) (c : PassClass) : Option HeadId :=
  if s.eligible .h0 && s.heads.h0.cls == c then some .h0
  else if s.eligible .h1 && s.heads.h1.cls == c then some .h1
  else if s.eligible .h0 then some .h0
  else if s.eligible .h1 then some .h1
  else none

/-- The close timer of a grant: the timeout, plus the allowance at a changeover; none with a close
timeout of 0 (R132). -/
def closeTimer (p : PressParams) (changeover : Bool) : Option Timer :=
  if p.closeTimeout = 0 then none
  else some ⟨.close, (p.closeTimeout + if changeover then p.changeover else 0) * ticksPerSecond⟩

/-- The grant of platen `p`, at the head of list `l` with `rest` behind it, to head `h` (R132). -/
def State.grant (s : State) (l : RackList) (p : PlatenIx) (rest : List PlatenIx) (h : HeadId) :
    State :=
  let c := listClass l
  let changeover := (s.heads.get h).cls != c
  let sp := if changeover then (s.pass.get c).defSetpoint else (s.thermal.get h).setpoint
  let s1 := ((s.setList l rest).movePointers l).setLocation p (.head h)
  let s2 := s1.modifyHead h fun d =>
    { d with state := .assigned, cls := c, platen := some p, origin := l, late := false,
             closeOnTaken := false, timer := closeTimer s.press changeover }
  let s3 := s2.modifyThermal h fun t => { t with setpoint := sp }
  s3.post h (.closeOn p c sp changeover)

/-- One grant, where a list holds a platen and a head is eligible (R131). -/
def State.grantOnce (s : State) : State :=
  match selectList s with
  | none => s
  | some l =>
    match s.lists.get l, chooseHead s (listClass l) with
    | p :: rest, some h => s.grant l p rest h
    | _, _ => s

/-- A grant evaluation (R131). Each grant takes an eligible head and none is made eligible by it, so
two grants are the most one evaluation makes. -/
def State.grantEval (s : State) : State := s.grantOnce.grantOnce

/-! ## Parking (R142) -/

/-- The park timer starts where the head holds no RELEASE (R142). -/
def State.startPark (s : State) (h : HeadId) : State :=
  s.modifyHead h fun d =>
    { d with timer := if d.mailbox = some .release then none
                      else some ⟨.park, s.press.parkDelay * ticksPerSecond⟩ }

/-- A FREE head parks by the park policy and a PARK is posted (R142). -/
def State.parkNow (s : State) (h : HeadId) : State :=
  let d := s.heads.get h
  let c := match s.press.parkPolicy with
    | .last => d.cls
    | .default_ => s.press.parkClass
  let sp := if c = d.cls then (s.thermal.get h).setpoint else (s.pass.get c).defSetpoint
  let s1 := s.modifyHead h fun d => { d with state := .parked, cls := c, timer := none }
  let s2 := s1.modifyThermal h fun t => { t with setpoint := sp }
  s2.post h (.park c sp)

/-- Parking within the event, for a head whose park timer was started with a delay of 0 (R142). -/
def State.parkIfDue (s : State) (h : HeadId) : State :=
  if (s.heads.get h).state = .free ∧ (s.heads.get h).timer = some ⟨.park, 0⟩ then s.parkNow h else s

/-- The end of an event at the Arbiter: a grant evaluation, then the heads it granted nothing park
where the park delay is 0 (R131, R142). -/
def State.settle (s : State) : State := (s.grantEval.parkIfDue .h0).parkIfDue .h1

/-! ## A head and its platen -/

/-- The platen of a head goes by an outcome: to TRANSIT, or to the head of its origin list (R137).
The head keeps its record until `vacate`. -/
def State.sendPlaten (s : State) (h : HeadId) (o : PressOutcome) : State :=
  match (s.heads.get h).platen with
  | none => s
  | some p =>
    match o with
    | .transit => s.setLocation p .transit
    | .return_ => s.joinHead (s.heads.get h).origin p

/-- The record of a head that has let its platen go: no platen, origin list CURE_RUSH, outcome
TRANSIT, CLOSE_ON taken clear (R125). -/
def Head.emptied (d : Head) : Head :=
  { d with platen := none, origin := .cureRush, outcome := .transit, closeOnTaken := false,
           timer := none }

/-- A head without a platen goes to DECLINING where decline pending is set, clearing it, and to FREE
otherwise, starting its park timer (R137). -/
def State.freeHead (s : State) (h : HeadId) : State :=
  if (s.heads.get h).declinePending then
    s.modifyHead h fun d => { d.emptied with state := .declining, declinePending := false }
  else (s.modifyHead h fun d => { d.emptied with state := .free }).startPark h

/-- The cycle record back at its idle values (R152). -/
def State.endCycle (s : State) (h : HeadId) : State :=
  s.modifyThermal h fun t => { t with cycle := Cycle.idle }

/-- The record of a head that waits for its opening after a RELEASE: RELEASING with the outcome and
the release timer started (R136, R144). -/
def State.startRelease (s : State) (h : HeadId) (o : PressOutcome) : State :=
  (s.modifyHead h fun d =>
    { d with state := .releasing, outcome := o,
             timer := some ⟨.release, s.press.releaseTimeout * ticksPerSecond⟩ }).post h .release

/-! ## VOID at the press (R144) -/

/-- What the Arbiter does with a platen whose ticket has become VOID, by where it stands. The grant
evaluation of the event is the caller's (log 9). -/
def State.voidAtPress (s : State) (p : PlatenIx) : State :=
  match s.location p with
  | .rack l => (s.leaveList l p).setLocation p .transit
  | .head h =>
    match (s.heads.get h).state, (s.heads.get h).closeOnTaken with
    | .assigned, false => ((s.sendPlaten h .transit).post h .release).freeHead h
    | .assigned, true => s.startRelease h .transit
    | .closed, _ => (s.endCycle h).startRelease h .transit
    | .releasing, _ => s.modifyHead h fun d => { d with outcome := .transit }
    | _, _ => s
  | _ => s

end Sys2Proof.Machine
end

