-- ==== Sys2Proof/Machine/Configuration.lean ====
section
/-! DEFINITION. CONFIG (R174) with the owners' rules R40, R97, R126, R127, R149 and R150, and
CLOSE_COMMISSIONING (R175). -/

namespace Sys2Proof.Machine

open Sys2Proof

/-! ## Parameters (R174), in the order of their numbers -/

/-- Table 0 LINE. -/
inductive LineParam where
  | matchPolicy | platenCount | minTopup | resprayLimit | repressLimit
  deriving DecidableEq, Repr

/-- Table 1 FABRIC. -/
inductive FabricParam where
  | db | kw | dmin | dmax | underTol | overTol | kdry | cbase | wet
  deriving DecidableEq, Repr

/-- Table 2 PRESS. -/
inductive PressParam where
  | headsPresent | mode | closeTimeout | changeover | sampleTimeout | releaseTimeout | retryLimit
  | isolation | parkDelay | parkPolicy | parkClass
  deriving DecidableEq, Repr

/-- Table 3 PASS. -/
inductive PassParam where
  | tb | w0 | goal | band | defSetpoint | ceiling | baseStep | multiStep | scorchTemp | scorchLimit
  | maxSamples
  deriving DecidableEq, Repr

/-- A parameter of a table without rows. -/
inductive FlatParam where
  | line (q : LineParam)
  | press (q : PressParam)
  deriving DecidableEq, Repr

/-- A parameter of a table with rows. -/
inductive RowParam where
  | fabric (q : FabricParam)
  | pass (q : PassParam)
  deriving DecidableEq, Repr

/-- What a CONFIG selector names. -/
inductive Param where
  | flat (q : FlatParam)
  | row (q : RowParam)
  deriving DecidableEq, Repr

def lineParams : List LineParam :=
  [.matchPolicy, .platenCount, .minTopup, .resprayLimit, .repressLimit]
def fabricParams : List FabricParam :=
  [.db, .kw, .dmin, .dmax, .underTol, .overTol, .kdry, .cbase, .wet]
def pressParams : List PressParam :=
  [.headsPresent, .mode, .closeTimeout, .changeover, .sampleTimeout, .releaseTimeout, .retryLimit,
   .isolation, .parkDelay, .parkPolicy, .parkClass]
def passParams : List PassParam :=
  [.tb, .w0, .goal, .band, .defSetpoint, .ceiling, .baseStep, .multiStep, .scorchTemp, .scorchLimit,
   .maxSamples]

/-- The parameter of a selector: the table in bits 6..4, the number in bits 3..0 (section 11.4). -/
def paramOf (sel : Selector) : Option Param :=
  let n := bitsAt sel 0 4
  match bitsAt sel 4 3 with
  | 0 => lineParams[n]?.map fun q => .flat (.line q)
  | 1 => fabricParams[n]?.map fun q => .row (.fabric q)
  | 2 => pressParams[n]?.map fun q => .flat (.press q)
  | 3 => passParams[n]?.map fun q => .row (.pass q)
  | _ => none

/-- The rows of a table: 8 fabric classes, DRY and CURE. -/
def RowParam.rows : RowParam → Nat
  | .fabric _ => 8
  | .pass _ => 2

/-! ## Ranges: lowest and highest value; an enumerated parameter runs from 0 to its last encoding -/

def LineParam.range : LineParam → Nat × Nat
  | .matchPolicy => (0, 1) | .platenCount => (1, 48) | .minTopup => (1, 200)
  | .resprayLimit => (0, 3) | .repressLimit => (0, 7)

def FabricParam.range : FabricParam → Nat × Nat
  | .db => (0, 1000) | .kw => (0, 255) | .dmin => (0, 1000) | .dmax => (0, 1000)
  | .underTol => (0, 255) | .overTol => (0, 255) | .kdry => (0, 255) | .cbase => (0, 60000)
  | .wet => (0, 255)

def PressParam.range : PressParam → Nat × Nat
  | .headsPresent => (1, 2) | .mode => (0, 1) | .closeTimeout => (0, 255) | .changeover => (0, 255)
  | .sampleTimeout => (1, 255) | .releaseTimeout => (1, 255) | .retryLimit => (0, 15)
  | .isolation => (0, 1) | .parkDelay => (0, 60) | .parkPolicy => (0, 1) | .parkClass => (0, 1)

def PassParam.range : PassParam → Nat × Nat
  | .tb => (0, 245) | .w0 => (1, 64) | .goal => (0, 255) | .band => (0, 31)
  | .defSetpoint => (0, 255) | .ceiling => (0, 255) | .baseStep => (1, 8) | .multiStep => (0, 1)
  | .scorchTemp => (10, 255) | .scorchLimit => (1, 15) | .maxSamples => (1, 1023)

/-! ## Values -/

def Params.value (v : Params) : LineParam → Nat
  | .matchPolicy => matchPolicyCode v.matchPolicy | .platenCount => v.platenCount
  | .minTopup => v.minTopup | .resprayLimit => v.resprayLimit | .repressLimit => v.repressLimit

def Params.put (v : Params) (q : LineParam) (n : Nat) : Params :=
  match q with
  | .matchPolicy => { v with matchPolicy := if n = 0 then .rushFirst else .ageOnly }
  | .platenCount => { v with platenCount := n }
  | .minTopup => { v with minTopup := n }
  | .resprayLimit => { v with resprayLimit := n }
  | .repressLimit => { v with repressLimit := n }

def FabricRow.value (v : FabricRow) : FabricParam → Nat
  | .db => v.db | .kw => v.kw | .dmin => v.dmin | .dmax => v.dmax | .underTol => v.underTol
  | .overTol => v.overTol | .kdry => v.kdry | .cbase => v.cbase | .wet => v.wet

def FabricRow.put (v : FabricRow) (q : FabricParam) (n : Nat) : FabricRow :=
  match q with
  | .db => { v with db := n } | .kw => { v with kw := n } | .dmin => { v with dmin := n }
  | .dmax => { v with dmax := n } | .underTol => { v with underTol := n }
  | .overTol => { v with overTol := n } | .kdry => { v with kdry := n }
  | .cbase => { v with cbase := n } | .wet => { v with wet := n }

def PressParams.value (v : PressParams) : PressParam → Nat
  | .headsPresent => v.headsPresent | .mode => arbModeCode v.mode
  | .closeTimeout => v.closeTimeout | .changeover => v.changeover
  | .sampleTimeout => v.sampleTimeout | .releaseTimeout => v.releaseTimeout
  | .retryLimit => v.retryLimit | .isolation => v.isolation.toNat | .parkDelay => v.parkDelay
  | .parkPolicy => parkPolicyCode v.parkPolicy | .parkClass => classCode v.parkClass

def PressParams.put (v : PressParams) (q : PressParam) (n : Nat) : PressParams :=
  match q with
  | .headsPresent => { v with headsPresent := n }
  | .mode => { v with mode := if n = 0 then .rotate else .fixed }
  | .closeTimeout => { v with closeTimeout := n }
  | .changeover => { v with changeover := n }
  | .sampleTimeout => { v with sampleTimeout := n }
  | .releaseTimeout => { v with releaseTimeout := n }
  | .retryLimit => { v with retryLimit := n }
  | .isolation => { v with isolation := decide (n ≠ 0) }
  | .parkDelay => { v with parkDelay := n }
  | .parkPolicy => { v with parkPolicy := if n = 0 then .last else .default_ }
  | .parkClass => { v with parkClass := if n = 0 then .dry else .cure }

def PassRow.value (v : PassRow) : PassParam → Nat
  | .tb => v.tb | .w0 => v.w0 | .goal => v.goal | .band => v.band
  | .defSetpoint => v.defSetpoint | .ceiling => v.ceiling | .baseStep => v.baseStep
  | .multiStep => v.multiStep.toNat | .scorchTemp => v.scorchTemp | .scorchLimit => v.scorchLimit
  | .maxSamples => v.maxSamples

def PassRow.put (v : PassRow) (q : PassParam) (n : Nat) : PassRow :=
  match q with
  | .tb => { v with tb := n } | .w0 => { v with w0 := n } | .goal => { v with goal := n }
  | .band => { v with band := n } | .defSetpoint => { v with defSetpoint := n }
  | .ceiling => { v with ceiling := n } | .baseStep => { v with baseStep := n }
  | .multiStep => { v with multiStep := decide (n ≠ 0) } | .scorchTemp => { v with scorchTemp := n }
  | .scorchLimit => { v with scorchLimit := n } | .maxSamples => { v with maxSamples := n }

/-! ## The owners' rules -/

/-- The value a fabric row adopts: clamped into the column's range, and a dose bound held to the
other one (R97). -/
def FabricRow.adopted (v : FabricRow) (q : FabricParam) (n : Nat) : Nat :=
  let x := clamp q.range.1 q.range.2 n
  match q with
  | .dmin => min x v.dmax
  | .dmax => max x v.dmin
  | _ => x

/-- The value a pass class column adopts: clamped into the parameter's range, and held to the
column's cross-constraints (R149). -/
def PassRow.adopted (v : PassRow) (q : PassParam) (n : Nat) : Nat :=
  let x := clamp q.range.1 q.range.2 n
  match q with
  | .defSetpoint => min x v.ceiling
  | .ceiling => max x v.defSetpoint
  | .tb => min x (v.scorchTemp - 10)
  | .scorchTemp => max x (v.tb + 10)
  | _ => x

/-- The re-clamp of one head after its class's setpoint range has changed (R150). -/
def State.reclampHead (c : PassClass) (s : State) (h : HeadId) : State :=
  let sp := clamp (s.pass.get c).defSetpoint (s.pass.get c).ceiling (s.thermal.get h).setpoint
  if s.present h ∧ (s.heads.get h).cls = c ∧ sp ≠ (s.thermal.get h).setpoint then
    (s.modifyThermal h fun t => { t with setpoint := sp }).post h (.setpoint sp)
  else s

/-- A pass class column's parameter replaced by its adopted value, with the re-clamp of R150 where
the default setpoint or the ceiling changes. -/
def State.writePass (s : State) (c : PassClass) (q : PassParam) (x : Nat) : State :=
  let s1 := { s with pass := s.pass.modify c fun v => v.put q x }
  if (q = .defSetpoint ∨ q = .ceiling) ∧ x ≠ (s.pass.get c).value q then
    (s1.reclampHead c .h0).reclampHead c .h1
  else s1

/-- The pass class of a row number below 2. -/
def classOf (r : Nat) : PassClass := if r = 0 then .dry else .cure

/-- The fabric class of a row number below 8. -/
def fabricOf (r : Nat) : FabricIx := Fin.ofNat 8 r

/-- The value of a row parameter in a row that its table has. -/
def State.rowValue (s : State) (q : RowParam) (r : Nat) : Nat :=
  match q with
  | .fabric q => (s.fabric.get (fabricOf r)).value q
  | .pass q => (s.pass.get (classOf r)).value q

/-- The value that a row adopts. -/
def State.rowAdopted (s : State) (q : RowParam) (r n : Nat) : Nat :=
  match q with
  | .fabric q => (s.fabric.get (fabricOf r)).adopted q n
  | .pass q => (s.pass.get (classOf r)).adopted q n

/-- The single write of one row by the owner's rule (R97, R149, R150). -/
def State.writeRow (s : State) (q : RowParam) (n r : Nat) : State :=
  match q with
  | .fabric k =>
    { s with fabric := s.fabric.modify (fabricOf r) fun v => v.put k (s.rowAdopted q r n) }
  | .pass k => s.writePass (classOf r) k (s.rowAdopted q r n)

/-- CLAMPED when the adopted value differs from the value written, OK otherwise (R174). -/
def writeResult (n x : Nat) : Result := if x = n then .ok else .clamped

/-- A wide write: each named row in ascending order (R174, step 4). -/
def State.writeRows (s : State) (q : RowParam) (n : Nat) : List Nat → State
  | [] => s
  | r :: rest => (s.writeRow q n r).writeRows q n rest

/-- The rows that a row mask names, in ascending order. -/
def maskRows (mask : Word) (rows : Nat) : List Nat := (List.range rows).filter fun r => mask.getLsbD r

/-- The rows of a wide write whose adopted value differs from the value written. Writes to one row
leave every other row's values, so the rows may be judged on the state before the write. -/
def State.anyClamped (s : State) (q : RowParam) (n : Nat) (rs : List Nat) : Bool :=
  rs.any fun r => s.rowAdopted q r n != n

/-- A record of the platen table that a lowered platen count would exclude stands at a station or
carries a ticket (R40). -/
def State.platenInUse (s : State) (n : Nat) (i : PlatenIx) : Bool :=
  decide (n ≤ i.val ∧ i.val < s.params.platenCount) &&
    ((s.ticket i).isSome || !(s.location i == .loadZone || s.location i == .transit))

/-- The platen count's owner rule, on the clamped value (R40). -/
def State.writePlatenCount (s : State) (n : Nat) : Option State :=
  if (List.finRange 48).any (s.platenInUse n) then none
  else
    some { s with
           params := { s.params with platenCount := n },
           platens := Table.tabulate fun i =>
             if n ≤ i.val then { s.platens.get i with location := .transit, misroutes := 0 }
             else s.platens.get i }

/-- Head 1 made not present (R127). -/
def State.removeHead (s : State) : State :=
  ({ s with press := { s.press with headsPresent := 1 } }.modifyHead .h1 fun d =>
    { d with state := .free, timer := none, declinePending := false, late := false }).setMailbox .h1
      none

/-- Head 1 made present (R127), with the grant evaluation, and the parking where the park delay is
0 (R131, R142). -/
def State.addHead (s : State) : State :=
  let s1 := { s with press := { s.press with headsPresent := 2 } }.modifyHead .h1 fun d =>
    { d with state := .free, cls := .cure }
  ((s1.modifyThermal .h1 fun t =>
    { t with setpoint := (s.pass.get .cure).defSetpoint }).startPark .h1).settle

/-- The heads-present owner rule, on the clamped value (R127). -/
def State.writeHeadsPresent (s : State) (n : Nat) : Option State :=
  if n = 1 then
    if s.present .h1 ∧ s.heads.h1.state ≠ .free ∧ s.heads.h1.state ≠ .parked ∧
        s.heads.h1.state ≠ .isolated then none
    else some s.removeHead
  else if s.present .h1 then some s
  else some s.addHead

/-- A write to a parameter of a table without rows, by the owner's rule: the adopted value and the
state; none for IN_USE. -/
def State.writeFlat (s : State) (q : FlatParam) (n : Nat) : Option (Nat × State) :=
  match q with
  | .line k =>
    let x := clamp k.range.1 k.range.2 n
    match k with
    | .platenCount => (s.writePlatenCount x).map fun t => (x, t)
    | _ => some (x, { s with params := s.params.put k x })
  | .press k =>
    let x := clamp k.range.1 k.range.2 n
    match k with
    | .headsPresent => (s.writeHeadsPresent x).map fun t => (x, t)
    | _ => some (x, { s with press := s.press.put k x })

/-- The value of a parameter of a table without rows. -/
def State.flatValue (s : State) : FlatParam → Nat
  | .line q => s.params.value q
  | .press q => s.press.value q

/-! ## CONFIG -/

/-- An answer with a 16-bit value in bits 15..0. -/
def valueAnswer (r : Result) (n : Nat) : Answer := answer r [(16, n)]

/-- CONFIG with the S flag clear (R174, steps 1 and 2). -/
def bodyConfigRead (sel : Selector) (arg : Arg) : Body := fun s =>
  match paramOf sel with
  | none => (answer0 .notFound, s)
  | some (.flat q) => (valueAnswer .ok (s.flatValue q), s)
  | some (.row q) =>
    let r := bitsAt arg 16 8
    if q.rows ≤ r then (answer0 .notFound, s) else (valueAnswer .ok (s.rowValue q r), s)

def execConfigRead (sel : Selector) (arg : Arg) (s : State) : Host.Outcome State Fault Refusal :=
  takeFrame .config .order (bodyConfigRead sel arg) s

/-- A wide write of a row parameter under a row mask (R174, step 4). -/
def wideWrite (q : RowParam) (mask : Word) (n : Nat) : Body := fun s =>
  if 2 ^ q.rows ≤ mask.toNat then (answer0 .notFound, s)
  else
    match maskRows mask q.rows with
    | [] => (answer0 .notFound, s)
    | r :: rest =>
      (valueAnswer (if s.anyClamped q n (r :: rest) then .clamped else .ok) (s.rowAdopted q r n),
        s.writeRows q n (r :: rest))

/-- A write of one row (R174, step 5). -/
def rowWrite (q : RowParam) (r n : Nat) : Body := fun s =>
  if q.rows ≤ r then (answer0 .notFound, s)
  else
    (valueAnswer (writeResult n (s.rowAdopted q r n)) (s.rowAdopted q r n), s.writeRow q n r)

/-- CONFIG with the S flag set (R174, steps 1 and 3 to 5). -/
def bodyConfigWrite (sel : Selector) (arg : Arg) : Body := fun s =>
  let n := bitsAt arg 0 16
  match paramOf sel with
  | none => (answer0 .notFound, s)
  | some q =>
    if s.commissioningOpen = false then (answer0 .locked, s)
    else
      match q with
      | .flat k =>
        match s.writeFlat k n with
        | some (x, t) => (valueAnswer (writeResult n x) x, t)
        | none => (answer0 .inUse, s)
      | .row k =>
        match s.ext .order with
        | some mask => wideWrite k mask n s
        | none => rowWrite k (bitsAt arg 16 8) n s

def execConfigWrite (sel : Selector) (arg : Arg) (s : State) : Host.Outcome State Fault Refusal :=
  takeFrame .config .order (bodyConfigWrite sel arg) s

/-- CLOSE_COMMISSIONING (R175). -/
def bodyCloseCommissioning : Body := fun s =>
  (answer .ok [flag s.commissioningOpen], { s with commissioningOpen := false })

def execCloseCommissioning (s : State) : Host.Outcome State Fault Refusal :=
  takeFrame .closeCommissioning .order bodyCloseCommissioning s

end Sys2Proof.Machine
end

