-- ==== Sys2Proof/Machine/OrderBook.lean ====
section
/-! DEFINITION. The Order Book's commands (spec/01) and the VOID marking of CANCEL_LINE (R28, R29). -/

namespace Sys2Proof.Machine

open Sys2Proof

/-! ## POST_LINE -/

/-- Some non-FREE line has the order reference and line number (R5, check 4). -/
def State.hasLine (s : State) (ref : Word) (no : BitVec 3) : Bool :=
  s.lines.cells.any fun l => l.state != .free && l.orderRef == ref && l.lineNo == no

/-- The new line of a taken POST_LINE (R6). -/
def newLine (sp : LineSpec) (ref : Word) (no : BitVec 3) (wanted : Nat) : OrderLine :=
  { state := .open_, orderRef := ref, lineNo := no, style := sp.style, size := sp.size,
    colour := sp.colour, fabric := sp.fabric, shade := sp.shade, priority := sp.priority,
    artwork := sp.artwork, wanted := wanted, bound := 0, finished := 0, spoiled := 0, serial := 0,
    held := false }

/-- POST_LINE's effect on the line it takes (R6). -/
def State.postLine (s : State) (i : LineIx) (l : OrderLine) : State :=
  ({ s with lines := s.lines.set i l, age := s.age ++ [i] }).modifyArtwork l.artwork fun e =>
    { e with lines := e.lines + 1 }

/-- POST_LINE (R5, R6). -/
def bodyPostLine (sel : Selector) (arg : Arg) : Body := fun s =>
  match s.ext .order with
  | none => (answer0 .badState, s)
  | some w =>
    let sp := lineSpec w
    let no : BitVec 3 := sel.extractLsb' 0 3
    let quantity := bitsAt sel 3 4
    if arg = 0 then (answer0 .notFound, s)
    else if (s.artworks.get sp.artwork).state = .free then (answer0 .notFound, s)
    else if s.hasLine arg no then (answer0 .duplicate, s)
    else
      match s.lines.findIx fun l => l.state == .free with
      | none => (answer0 .full, s)
      | some i =>
        let wanted := max quantity 1
        (answer (if quantity = 0 then .clamped else .ok) [(8, i.val), (4, wanted)],
          s.postLine i (newLine sp arg no wanted))

def execPostLine (sel : Selector) (arg : Arg) (s : State) : Host.Outcome State Fault Refusal :=
  takeFrame .postLine .order (bodyPostLine sel arg) s

/-! ## AMEND_LINE, HOLD_LINE, RETIRE_LINE -/

/-- AMEND_LINE (R7): the line index in bits 7..0 and the quantity in bits 15..8 (R182). -/
def bodyAmendLine (arg : Arg) : Body := fun s =>
  let i := lineAt arg 0
  let quantity := bitsAt arg 8 8
  let l := s.lines.get i
  match l.state with
  | .free => (answer0 .notFound, s)
  | .cancelled => (answer0 .badState, s)
  | _ =>
    let wanted := clamp (max (l.bound + l.finished) 1) 15 quantity
    (answer (if wanted = quantity then .ok else .clamped) [(4, wanted)],
      s.updateLine i fun l => { l with wanted := wanted })

def execAmendLine (arg : Arg) (s : State) : Host.Outcome State Fault Refusal :=
  takeFrame .amendLine .order (bodyAmendLine arg) s

/-- HOLD_LINE (R9): the line index in bits 7..0 and the hold value in bit 8 (R182). -/
def bodyHoldLine (arg : Arg) : Body := fun s =>
  let i := lineAt arg 0
  if (s.lines.get i).state = .free then (answer0 .notFound, s)
  else (answer0 .ok, s.modifyLine i fun l => { l with held := arg.getLsbD 8 })

def execHoldLine (arg : Arg) (s : State) : Host.Outcome State Fault Refusal :=
  takeFrame .holdLine .order (bodyHoldLine arg) s

/-- RETIRE_LINE's effect (R11). -/
def State.retireLine (s : State) (i : LineIx) : State :=
  ({ s with lines := s.lines.set i OrderLine.free, age := s.age.erase i }).modifyArtwork
    (s.lines.get i).artwork fun e => { e with lines := e.lines - 1 }

/-- RETIRE_LINE (R11). -/
def bodyRetireLine (arg : Arg) : Body := fun s =>
  let i := lineAt arg 0
  let l := s.lines.get i
  match l.state with
  | .done => if l.bound = 0 then (answer0 .ok, s.retireLine i) else (answer0 .inUse, s)
  | .cancelled => if l.bound = 0 then (answer0 .ok, s.retireLine i) else (answer0 .inUse, s)
  | _ => (answer0 .badState, s)

def execRetireLine (arg : Arg) (s : State) : Host.Outcome State Fault Refusal :=
  takeFrame .retireLine .order (bodyRetireLine arg) s

/-! ## CANCEL_LINE (R10, R28, R29, R144) -/

/-- The platen carries a ticket that names the line. -/
def State.ticketNames (s : State) (i : LineIx) (p : PlatenIx) : Bool :=
  match s.ticket p with
  | some t => t.line == i
  | none => false

/-- The platens below the platen count whose ticket names the line, in rising order (R28; log 9). -/
def State.platensOfLine (s : State) (i : LineIx) : List PlatenIx :=
  (List.finRange 48).filter fun p => decide (p.val < s.params.platenCount) && s.ticketNames i p

/-- The ticket made VOID; everything else of it stands (R28). -/
def State.voidTicket (s : State) (p : PlatenIx) : State :=
  s.modifyTicket p fun t => { t with disposition := .void }

/-- What a cancellation does at the station where a voided platen stands (R29, R144). -/
def State.voidEffect (i : LineIx) (s : State) (p : PlatenIx) : State :=
  match s.location p with
  | .loadZone | .transit => s
  | .pretreatQueue | .pretreatSlot => s.raise .voidedPretreat [(6, p.val), (2, 0), (8, i.val)]
  | .printQueue | .bed _ => s.raise .voidedPrint [(6, p.val), (2, 0), (8, i.val)]
  | .rack _ | .head _ => s.voidAtPress p

/-- CANCEL_LINE's effect: the line is CANCELLED, every ticket that names it is VOID, then each
platen's station acts, and the Arbiter settles once (R10, R28, R29, R144; log 9). -/
def State.cancelLine (s : State) (i : LineIx) : State :=
  let ps := if (s.lines.get i).bound = 0 then [] else s.platensOfLine i
  let s1 := s.modifyLine i fun l => { l with state := .cancelled }
  let s2 := ps.foldl State.voidTicket s1
  let s3 := ps.foldl (State.voidEffect i) s2
  if ps.isEmpty then s3 else s3.settle

/-- CANCEL_LINE (R10). -/
def bodyCancelLine (arg : Arg) : Body := fun s =>
  let i := lineAt arg 0
  let l := s.lines.get i
  match l.state with
  | .open_ | .full =>
    let n := if l.bound = 0 then 0 else (s.platensOfLine i).length
    (answer .ok [(6, n)], s.cancelLine i)
  | _ => (answer0 .badState, s)

def execCancelLine (arg : Arg) (s : State) : Host.Outcome State Fault Refusal :=
  takeFrame .cancelLine .order (bodyCancelLine arg) s

/-! ## READ_LINE (R12) -/

/-- The groups of READ_LINE that name a line: IDENT, SPEC, COUNTS, STATUS. -/
def lineGroup (l : OrderLine) : Nat → Option (List Field)
  | 0 => some [(32, l.orderRef.toNat)]
  | 1 => some l.specFields
  | 2 => some [(4, l.wanted), (4, l.bound), (4, l.finished), (8, l.spoiled)]
  | 3 => some [(3, lineStateCode l.state), flag l.held, (3, l.lineNo.toNat), (8, l.serial)]
  | _ => none

/-- READ_LINE (R12): group AGE is 4. DESIGN CHOICE (log 7): at NOT_FOUND the length stands alone at
bit 0. -/
def bodyReadLine (sel : Selector) (arg : Arg) : Body := fun s =>
  if sel.toNat = 4 then
    match s.age[bitsAt arg 0 8]? with
    | some i => (⟨.ok, groupWord arg [(8, i.val), (9, s.age.length)]⟩, s)
    | none => (⟨.notFound, groupWord arg [(9, s.age.length)]⟩, s)
  else
    match lineGroup (s.lines.get (lineAt arg 0)) sel.toNat with
    | none => (answer0 .notFound, s)
    | some fs =>
      if (s.lines.get (lineAt arg 0)).state = .free then (answer0 .notFound, s)
      else (⟨.ok, groupWord arg fs⟩, s)

def execReadLine (sel : Selector) (arg : Arg) (s : State) : Host.Outcome State Fault Refusal :=
  takeFrame .readLine .order (bodyReadLine sel arg) s

end Sys2Proof.Machine
end

