-- ==== Sys2Proof/Machine/Matching.lean ====
section
/-! DEFINITION. The Garment Matcher and the life of a ticket at load and unload: LOAD_SCAN (R18 to
R22), the dose at binding (R98), and UNLOAD (R31 to R34). -/

namespace Sys2Proof.Machine

open Sys2Proof

/-! ## Dose (R98) -/

/-- The dose of a garment (R98). -/
def dose (row : FabricRow) (shade : Shade) (lw : Nat) : Nat :=
  match shade with
  | .dark => clamp row.dmin row.dmax (row.db + lw * row.kw / 256)
  | .light => if lw = 0 then 0 else clamp row.dmin row.dmax (lw * row.kw / 256)

/-! ## Matching (R19, R20, R22) -/

/-- A scanned blank: style, size and colour, laid out as in the specification word (section 11.4). -/
structure Scan where
  style  : BitVec 10
  size   : BitVec 4
  colour : BitVec 7
  deriving DecidableEq, Repr

def scanOf (arg : Arg) : Scan :=
  { style := arg.extractLsb' 22 10, size := arg.extractLsb' 18 4, colour := arg.extractLsb' 11 7 }

/-- The line asks for such a blank. -/
def OrderLine.wants (l : OrderLine) (k : Scan) : Bool :=
  l.style == k.style && l.size == k.size && l.colour == k.colour

/-- The line's artwork is READY. -/
def State.artReady (s : State) (l : OrderLine) : Bool := (s.artworks.get l.artwork).state == .ready

/-- A line qualifies on the automatic path (R19). -/
def State.qualifies (s : State) (k : Scan) (i : LineIx) : Bool :=
  let l := s.lines.get i
  l.state == .open_ && !l.held && l.wants k && s.artReady l

/-- The line that the automatic path chooses by the match policy (R19). -/
def State.autoMatch (s : State) (k : Scan) : Option LineIx :=
  let first := s.age.find? (s.qualifies k)
  match s.params.matchPolicy with
  | .ageOnly => first
  | .rushFirst =>
    (s.age.find? fun i => s.qualifies k i && (s.lines.get i).priority == .rush).or first

/-- How many non-FREE lines ask for such a blank (R22). -/
def State.linesWanting (s : State) (k : Scan) : Nat :=
  s.lines.countIx fun l => l.state != .free && l.wants k

/-! ## Binding (R21) -/

/-- The ticket that R21 creates, with the fields of R23 at binding. -/
def newTicket (s : State) (i : LineIx) : Ticket :=
  let l := s.lines.get i
  let e := s.artworks.get l.artwork
  { line := i, serial := nextSerial l.serial, artwork := l.artwork, fabric := l.fabric,
    shade := l.shade, priority := l.priority, lc := e.lc, lw := e.lw,
    dose := dose (s.fabric.get l.fabric) l.shade e.lw, applied := 0, sprays := 0,
    dryTarget := none, dryCredit := 0, cureTarget := none, cureCredit := 0, presses := 0,
    scorches := 0, headRetries := 0, stage := .bound, disposition := .good, reason := none }

/-- The bind event (R13). -/
def OrderLine.bind (l : OrderLine) : OrderLine :=
  { l with bound := l.bound + 1, serial := nextSerial l.serial }

/-- The bind of R21: the line's bind event, the ticket with its dose, and the artwork's ticket
count. -/
def State.bind (s : State) (p : PlatenIx) (i : LineIx) : State :=
  let t := newTicket s i
  let s1 := s.updateLine i OrderLine.bind
  let s2 := s1.modifyPlaten p fun r => { r with ticket := some t }
  s2.modifyArtwork t.artwork fun e => { e with tickets := e.tickets + 1 }

/-- A LOAD_SCAN that binds: OK with the line index in bits 7..0 and the dose in bits 25..16
(section 11.4). -/
def bindAnswer (s : State) (p : PlatenIx) (i : LineIx) : Answer × State :=
  (answer .ok [(8, i.val), (8, 0), (10, (newTicket s i).dose)], s.bind p i)

/-- The forced path (R20). -/
def forcedScan (w : Word) (p : PlatenIx) (k : Scan) : Body := fun s =>
  if 255 < w.toNat then (answer0 .notFound, s)
  else
    let i := lineAt w 0
    let l := s.lines.get i
    if l.state ≠ .open_ then (answer0 .badState, s)
    else if l.wants k = false then (answer0 .badState, s)
    else if s.artReady l = false then (answer0 .notReady, s)
    else bindAnswer s p i

/-- The automatic path (R19, R22). -/
def autoScan (p : PlatenIx) (k : Scan) : Body := fun s =>
  match s.autoMatch k with
  | some i => bindAnswer s p i
  | none => (answer .noMatch [(9, s.linesWanting k)], s)

/-- LOAD_SCAN (R18). -/
def bodyLoadScan (sel : Selector) (arg : Arg) : Body := fun s =>
  match s.platenOf sel.toNat with
  | none => (answer0 .notFound, s)
  | some p =>
    if (s.ticket p).isSome then (answer0 .badState, s)
    else if s.location p ≠ .loadZone ∧ s.location p ≠ .transit then (answer0 .badState, s)
    else
      match s.ext .order with
      | some w => forcedScan w p (scanOf arg) s
      | none => autoScan p (scanOf arg) s

def execLoadScan (sel : Selector) (arg : Arg) (s : State) : Host.Outcome State Fault Refusal :=
  takeFrame .loadScan .order (bodyLoadScan sel arg) s

/-! ## UNLOAD (R31 to R34) -/

/-- UNLOAD's outcomes (R32, R33; log 11). -/
inductive UnloadOutcome where
  | empty | finished | spoiled | unvoided
  deriving DecidableEq, Repr

def unloadCode : UnloadOutcome → Nat
  | .empty => 0 | .finished => 1 | .spoiled => 2 | .unvoided => 3

/-- The finish, spoil and unvoid events (R14, R15, R16). -/
def OrderLine.finish (l : OrderLine) : OrderLine :=
  { l with bound := l.bound - 1, finished := l.finished + 1 }
def OrderLine.spoilOne (l : OrderLine) : OrderLine :=
  { l with bound := l.bound - 1, spoiled := satAdd 255 l.spoiled 1 }
def OrderLine.unvoid (l : OrderLine) : OrderLine := { l with bound := l.bound - 1 }

/-- The outcome that a ticket decides (R33). -/
def Ticket.unloadOutcome (t : Ticket) : UnloadOutcome :=
  match t.disposition with
  | .good => if t.stage = .cured then .finished else .spoiled
  | .spoiled => .spoiled
  | .void => .unvoided

/-- Steps 2 to 4 of R34: the artwork's ticket count, the ticket, the location. -/
def State.removeTicket (s : State) (p : PlatenIx) (t : Ticket) : State :=
  let s1 := s.modifyArtwork t.artwork fun e => { e with tickets := e.tickets - 1 }
  s1.modifyPlaten p fun r => { r with ticket := none, location := .loadZone }

/-- An UNLOAD of a platen that carries ticket `t` (R33, R34). -/
def State.unloadTicket (s : State) (p : PlatenIx) (t : Ticket) : State :=
  match t.unloadOutcome with
  | .finished => (s.updateLine t.line OrderLine.finish).removeTicket p t
  | .unvoided => (s.updateLine t.line OrderLine.unvoid).removeTicket p t
  | _ =>
    -- PULLED where the ticket is GOOD; `spoil` leaves a SPOILED one as it is (R26, R33)
    (((s.spoil p .pulled)).updateLine t.line OrderLine.spoilOne).removeTicket p t

/-- UNLOAD (R31 to R34). -/
def bodyUnload (sel : Selector) : Body := fun s =>
  match s.platenOf sel.toNat with
  | none => (answer0 .notFound, s)
  | some p =>
    if s.location p ≠ .transit ∧ s.location p ≠ .loadZone then (answer0 .badState, s)
    else
      match s.ticket p with
      | none => (answer .ok [(2, unloadCode .empty)], s.setLocation p .loadZone)
      | some t =>
        (answer .ok [(2, unloadCode t.unloadOutcome), (8, t.line.val), (8, t.serial)],
          s.unloadTicket p t)

def execUnload (sel : Selector) (s : State) : Host.Outcome State Fault Refusal :=
  takeFrame .unload .order (bodyUnload sel) s

end Sys2Proof.Machine
end

