-- ==== Sys2Proof/Machine/Ports.lean ====
section
/-! DEFINITION. The port machinery (spec/10): SELECT_ASSERTION, and the commands that every port takes:
NOP, EXTEND, READ_ID, FETCH_NOTICE and NOTICE_MASK. -/

namespace Sys2Proof.Machine

open Sys2Proof

/-- SELECT_ASSERTION (R168, R171). -/
def execSelectAssertion (p : Port) (s : State) : Host.Outcome State Fault Refusal :=
  .next (s.assertSelect p)

/-- NOP (R171). -/
def bodyNop : Body := fun s => (answer0 .none, s)

def execNop (p : Port) (s : State) : Host.Outcome State Fault Refusal :=
  takeFrame .nop p bodyNop s

/-- EXTEND (R173): the one command after which the extension word is valid. Every port accepts it. -/
def execExtend (p : Port) (arg : Arg) (s : State) : Host.Outcome State Fault Refusal :=
  match s.openFrame p with
  | none => .next (s.releaseSelect p)
  | some s1 => .next (s1.finish p ⟨.ok, arg⟩ (some arg))

/-- READ_ID (R179): revision, part code and port number as section 11.4 places them. -/
def bodyReadId (p : Port) : Body := fun s =>
  (answer .ok [(8, Config.revision), (8, Config.partCode), (2, portCode p)], s)

def execReadId (p : Port) (s : State) : Host.Outcome State Fault Refusal :=
  takeFrame .readId p (bodyReadId p) s

/-- The kind stays pending with its detail after a fetch: ASSIGNMENT_0 and ASSIGNMENT_1 while their
mailbox slot is non-empty (R178). -/
def State.staysPending (s : State) (p : Port) (i : Fin 8) : Bool :=
  p == .press && ((i == 0 && s.heads.h0.mailbox.isSome) || (i == 1 && s.heads.h1.mailbox.isSome))

/-- FETCH_NOTICE (R178): the kind in bits 31..28, its detail in bits 27..0 (section 11.4). -/
def bodyFetchNotice (p : Port) : Body := fun s =>
  let ps := s.ports.get p
  match ps.firstNews with
  | none => (answer0 .none, s)
  | some i =>
    let s1 := if s.staysPending p i then s
              else s.modifyPort p fun ps => { ps with notices := ps.notices.set i ⟨false, 0⟩ }
    (answer .ok [(28, (ps.notices.get i).detail.toNat), (4, i.val)], s1)

def execFetchNotice (p : Port) (s : State) : Host.Outcome State Fault Refusal :=
  takeFrame .fetchNotice p (bodyFetchNotice p) s

/-- The answer of NOTICE_MASK: the mask in force after the command (R177). -/
def maskAnswer (s : State) (p : Port) : Answer := answer .ok [(8, (s.ports.get p).mask.toNat)]

/-- NOTICE_MASK with the S flag clear (R177). -/
def bodyNoticeMaskRead (p : Port) : Body := fun s => (maskAnswer s p, s)

def execNoticeMaskRead (p : Port) (s : State) : Host.Outcome State Fault Refusal :=
  takeFrame .noticeMask p (bodyNoticeMaskRead p) s

/-- NOTICE_MASK with the S flag set: bits beyond the port's kinds are ignored (R177). -/
def bodyNoticeMaskWrite (p : Port) (arg : Arg) : Body := fun s =>
  let s1 := s.modifyPort p fun ps => { ps with mask := arg.extractLsb' 0 8 &&& kindMask p }
  (maskAnswer s1 p, s1)

def execNoticeMaskWrite (p : Port) (arg : Arg) (s : State) : Host.Outcome State Fault Refusal :=
  takeFrame .noticeMask p (bodyNoticeMaskWrite p arg) s

end Sys2Proof.Machine
end

