-- ==== Sys2Proof/Machine/Preflight.lean ====
section
/-! DEFINITION. The Preflight Engine (spec/05). -/

namespace Sys2Proof.Machine

open Sys2Proof

/-! ## Sums (R84, R86) -/

/-- The drop levels of a word's 16 pixels, summed (section 4.1). -/
def wordLevels (w : Word) : Nat :=
  (List.range 16).foldl (fun acc i => acc + (w.extractLsb' (2 * i) 2).toNat) 0

/-- The drop levels of a store block, summed (R84). -/
def State.blockLevels (s : State) (b : Nat) : Nat :=
  (s.storeBlock b).foldl (fun acc w => acc + wordLevels w) 0

/-- A resident segment that the print side can read: it is scanned and counted (R83, R86). -/
def Segment.printable (g : Segment) : Bool := g.resident && g.printKey == .read

/-- The scan list of a preflight (R83). -/
def scanListOf (e : Artwork) (mode : PreflightMode) : List SegIx :=
  (List.finRange 16).filter fun i =>
    let g := e.segs.get i
    g.printable &&
      match mode with
      | .full => true
      | .incremental => g.written || !g.valid

/-- The authorized blocks of listed segments, counted together (R82). -/
def listedBlocks (e : Artwork) (l : List SegIx) : Nat :=
  l.foldl (fun acc i => acc + (e.segs.get i).blockCount) 0

/-- A plane total: the sums of the printable segments of the plane (R86). -/
def planeTotal (e : Artwork) (p : Plane) : Nat :=
  e.segs.cells.foldl (fun acc g => if g.printable && g.plane == p then acc + g.sum else acc) 0

/-- The entry at completion: plane totals, Lc, Lw, the valid mark, READY (R86, steps 1 to 4). -/
def Artwork.complete (e : Artwork) : Artwork :=
  let c := planeTotal e .c
  let m := planeTotal e .m
  let y := planeTotal e .y
  let k := planeTotal e .k
  let w := planeTotal e .w
  { e with totals := ⟨c, m, y, k, w⟩, lc := (c + m + y + k) / Config.inkUnit,
           lw := w / Config.inkUnit, inkValid := true, state := .ready }

/-- PREFLIGHT_END's detail (section 11.4): Lw, the artwork, and 1 for ABANDONED. -/
def State.raisePreflightEnd (s : State) (a : ArtIx) (lw : Nat) (abandoned : Bool) : State :=
  s.raise .preflightEnd [(16, lw), (6, a.val), flag abandoned]

/-- Completion (R86, R87). -/
def State.completePreflight (s : State) (a : ArtIx) : State :=
  let s1 := s.modifyArtwork a Artwork.complete
  ({ s1 with engine := Engine.idle }).raisePreflightEnd a (s1.artworks.get a).lw false

/-! ## Commands -/

/-- PREFLIGHT_START's effect (R82). -/
def State.startPreflight (s : State) (a : ArtIx) (mode : PreflightMode) : State :=
  let l := scanListOf (s.artworks.get a) mode
  let s1 := s.modifyArtwork a fun e => { e with state := .preflight, inkValid := false }
  match l with
  | [] => s1.completePreflight a
  | g :: _ =>
    { s1 with
      engine := { Engine.idle with running := true, artwork := a, mode := mode, scanList := l,
                                   current := g } }

/-- PREFLIGHT_START (R81, R82): the mode in bit 0 of the argument (R182). -/
def bodyPreflightStart (sel : Selector) (arg : Arg) : Body := fun s =>
  match artOf sel.toNat with
  | none => (answer0 .notFound, s)
  | some a =>
    let e := s.artworks.get a
    let mode : PreflightMode := if arg.getLsbD 0 then .incremental else .full
    if e.state = .free then (answer0 .notFound, s)
    else if e.tickets ≠ 0 then (answer0 .inUse, s)
    else if s.engine.running || s.loadRunOn a then (answer0 .busy, s)
    else if e.segs.cells.any Segment.printable = false then (answer0 .notReady, s)
    else
      let l := scanListOf e mode
      (answer .ok [(5, l.length), (13, listedBlocks e l)], s.startPreflight a mode)

def execPreflightStart (sel : Selector) (arg : Arg) (s : State) :
    Host.Outcome State Fault Refusal :=
  takeFrame .preflightStart .order (bodyPreflightStart sel arg) s

/-- PREFLIGHT_ABANDON's effect (R88). -/
def State.abandonPreflight (s : State) : State :=
  let s1 := s.modifyArtwork s.engine.artwork fun e => { e with state := .loading }
  ({ s1 with engine := Engine.idle }).raisePreflightEnd s.engine.artwork 0 true

/-- PREFLIGHT_ABANDON (R88). -/
def bodyPreflightAbandon : Body := fun s =>
  if s.engine.running then
    (answer .ok [(6, s.engine.artwork.val), (5, s.engine.segsDone)], s.abandonPreflight)
  else (answer0 .none, s)

def execPreflightAbandon (s : State) : Host.Outcome State Fault Refusal :=
  takeFrame .preflightAbandon .order bodyPreflightAbandon s

/-! ## Scanning (R84) -/

/-- The finish of the current segment's scan with its sum: the descriptor is valid and clean, and the
engine moves to the next entry or the preflight completes. -/
def State.finishSegment (s : State) (sum : Nat) : State :=
  let e := s.engine
  let s1 := s.modifySegment e.artwork e.current fun g =>
    { g with sum := sum, valid := true, written := false }
  match e.scanList[e.segsDone + 1]? with
  | some g =>
    { s1 with
      engine := { e with segsDone := e.segsDone + 1, sum := 0, inSegment := 0, current := g } }
  | none => s1.completePreflight e.artwork

/-- One authorized block of the current segment is added (R84). The blocks are taken in rising order
(log 6). -/
def State.scanBlock (s : State) : State :=
  let e := s.engine
  let g := s.segment e.artwork e.current
  let sum := e.sum + s.blockLevels (g.base + g.lowBlock + e.inSegment)
  let s1 : State :=
    { s with engine := { e with sum := sum, blocks := e.blocks + 1, inSegment := e.inSegment + 1 } }
  if g.blockCount ≤ e.inSegment + 1 then s1.finishSegment sum else s1

/-- PREFLIGHT_BLOCK_READ (R84). An IDLE engine reads no block. -/
def execPreflightBlockRead (s : State) : Host.Outcome State Fault Refusal :=
  if s.engine.running then .next s.scanBlock else .next s

/-! ## Reading (R91, R92) -/

/-- The groups of READ_PREFLIGHT: LC 0, LW 1, TOTAL 2, SEGMENT 3, ENGINE 4. A value whose mark is
clear reads as 0. -/
def preflightGroup (s : State) (a : ArtIx) (sub : Nat) (g : SegIx) : Nat → Option (List Field)
  | 0 =>
    let e := s.artworks.get a
    some [(16, if e.inkValid then e.lc else 0), flag e.inkValid]
  | 1 =>
    let e := s.artworks.get a
    some [(16, if e.inkValid then e.lw else 0), flag e.inkValid]
  | 2 =>
    let e := s.artworks.get a
    (planeOf sub).map fun p =>
      [(28, if e.inkValid then e.totals.get p else 0), flag e.inkValid]
  | 3 =>
    let d := s.segment a g
    some [(24, if d.valid then d.sum else 0), flag d.valid, flag d.written]
  | 4 =>
    let e := s.engine
    some [flag e.running, (6, e.artwork.val), (1, modeCode e.mode), (4, e.current.val),
          (5, e.segsDone), (13, e.blocks)]
  | _ => none

/-- READ_PREFLIGHT (R91, R92): the artwork in bits 5..0 of the argument, the plane in bits 8..6 or
the segment in bits 9..6 (R182). -/
def bodyReadPreflight (sel : Selector) (arg : Arg) : Body := fun s =>
  match artOf (bitsAt arg 0 6) with
  | none => (answer0 .notFound, s)
  | some a =>
    match preflightGroup s a (bitsAt arg 6 3) (segAt arg 6) sel.toNat with
    | none => (answer0 .notFound, s)
    | some fs => (⟨.ok, groupWord arg fs⟩, s)

def execReadPreflight (p : Port) (sel : Selector) (arg : Arg) (s : State) :
    Host.Outcome State Fault Refusal :=
  takeFrame .readPreflight p (bodyReadPreflight sel arg) s

end Sys2Proof.Machine
end

