-- ==== Sys2Proof/Machine/Thermal.lean ====
section
/-! DEFINITION. The Press Thermal Unit (spec/09): samples, credit, scorch, completion, short cycles,
setpoint stepping, early openings, PRESS_SAMPLE and READ_THERMAL. -/

namespace Sys2Proof.Machine

open Sys2Proof

/-- The cycle results of PRESS_SAMPLE (R154). -/
inductive CycleResult where
  | continue_ | complete | scorched | shortReturn | shortSpoiled
  deriving DecidableEq, Repr

def cycleResultCode : CycleResult → Nat
  | .continue_ => 0 | .complete => 1 | .scorched => 2 | .shortReturn => 3 | .shortSpoiled => 4

/-- The credit increment of a sample at `t` degrees (R155). -/
def creditIncrement (row : PassRow) (t : Nat) : Nat :=
  if t < row.tb then 0
  else
    let d := min (t - row.tb) 59
    row.w0 * 2 ^ (d / 10) * (10 + d % 10) / 10

/-- An increment added to the credit of a class, which saturates at 65535 (R155). -/
def Ticket.addCredit (t : Ticket) (c : PassClass) (inc : Nat) : Ticket :=
  match c with
  | .dry => { t with dryCredit := satAdd 65535 t.dryCredit inc }
  | .cure => { t with cureCredit := satAdd 65535 t.cureCredit inc }

/-- The stage that a completed cycle reaches (R157). -/
def Ticket.completeCycle (t : Ticket) : PassClass → Ticket
  | .dry => t.advance .pretreated .primed
  | .cure => t.advance .printed .cured

/-- The judgement of a short cycle (R158): the press count rises, and the garment goes back or is
spoiled. -/
def State.judgeShort (s : State) (p : PlatenIx) (c : PassClass) : State × PressOutcome × CycleResult :=
  let s1 := s.modifyTicket p fun t => { t with presses := t.presses + 1 }
  let presses := ((s1.ticket p).map Ticket.presses).getD 0
  if presses ≤ s.params.repressLimit then (s1, .return_, .shortReturn)
  else
    (s1.spoil p (match c with | .dry => .underdried | .cure => .undercured), .transit, .shortSpoiled)

/-- The direction of the setpoint move (R159), the two bounds taken as signed figures. -/
def moveDirection (row : PassRow) (t : Nat) : MoveDir :=
  if t + row.band < row.goal then .up
  else if row.goal + row.band < t then .down
  else .hold

/-- The step of a move UP or DOWN (R160). -/
def moveStep (row : PassRow) (c : Cycle) (dir : MoveDir) : Nat :=
  if c.prevDir = dir ∧ row.multiStep then min (c.step + 1) 15 else row.baseStep

/-- The setpoint after a move, clamped into the class's range (R160). -/
def movedSetpoint (row : PassRow) (sp step : Nat) (dir : MoveDir) : Nat :=
  clamp row.defSetpoint row.ceiling (match dir with | .up => sp + step | _ => sp - step)

/-- Setpoint stepping after a sample that leaves the head closed (R159, R160). -/
def State.stepSetpoint (s : State) (h : HeadId) (t : Nat) : State :=
  let th := s.thermal.get h
  let row := s.pass.get th.cycle.cls
  match moveDirection row t with
  | .hold =>
    s.modifyThermal h fun th =>
      { th with cycle := { th.cycle with step := row.baseStep, prevDir := .hold } }
  | dir =>
    let step := moveStep row th.cycle dir
    let sp := movedSetpoint row th.setpoint step dir
    let s1 := s.modifyThermal h fun th =>
      { th with setpoint := sp, cycle := { th.cycle with step := step, prevDir := dir } }
    if sp = th.setpoint then s1 else s1.post h (.setpoint sp)

/-- The end of a cycle at a sample: the cycle record is idle, and the Arbiter takes the release
request with its outcome (R136, R154). -/
def State.endAtSample (s : State) (h : HeadId) (o : PressOutcome) : State :=
  (s.endCycle h).startRelease h o

/-- Steps 1 and 2 of R154 with the restart of the sample timer (R135): the sample is counted and its
increment added. -/
def State.countSample (s : State) (h : HeadId) (t : Nat) : State :=
  let c := (s.thermal.get h).cycle
  let s1 := s.modifyHead h fun d =>
    { d with timer := some ⟨.sample, s.press.sampleTimeout * ticksPer100ms⟩ }
  let s2 := s1.modifyThermal h fun th =>
    { th with cycle := { th.cycle with samples := th.cycle.samples + 1 } }
  s2.modifyTicket c.platen fun k => k.addCredit c.cls (creditIncrement (s.pass.get c.cls) t)

/-- Steps 3 to 6 of R154, on the state that steps 1 and 2 left. -/
def State.judgeSample (s : State) (h : HeadId) (t : Nat) : State × CycleResult :=
  let c := (s.thermal.get h).cycle
  let row := s.pass.get c.cls
  let scorching := decide (row.scorchTemp ≤ t)
  let s1 := if scorching then s.modifyTicket c.platen fun k => { k with scorches := k.scorches + 1 }
            else s
  match s1.ticket c.platen with
  | none => (s1.stepSetpoint h t, .continue_)
  | some k =>
    if scorching && decide (row.scorchLimit ≤ k.scorches) then
      ((s1.spoil c.platen .scorched).endAtSample h .transit, .scorched)
    else if k.meetsTarget c.cls then
      ((s1.modifyTicket c.platen fun k => k.completeCycle c.cls).endAtSample h .transit, .complete)
    else if row.maxSamples ≤ c.samples then
      let r := s1.judgeShort c.platen c.cls
      (r.1.endAtSample h r.2.1, r.2.2)
    else (s1.stepSetpoint h t, .continue_)

/-- PRESS_SAMPLE (R153, R154). -/
def bodyPressSample (sel : Selector) (arg : Arg) : Body := fun s =>
  match s.presentHead sel.toNat with
  | none => (answer0 .notFound, s)
  | some h =>
    match (s.heads.get h).state with
    | .closed =>
      let t := bitsAt arg 0 8
      let c := (s.thermal.get h).cycle
      let s1 := s.countSample h t
      let credit := ((s1.ticket c.platen).map fun k => k.credit c.cls).getD 0
      let r := s1.judgeSample h t
      (answer .ok [(16, credit), (8, (r.1.thermal.get h).setpoint), (3, cycleResultCode r.2)], r.1)
    | .releasing => (answer0 .late, s)
    | _ => if (s.heads.get h).late then (answer0 .late, s) else (answer0 .badState, s)

def execPressSample (sel : Selector) (arg : Arg) (s : State) : Host.Outcome State Fault Refusal :=
  takeFrame .pressSample .press (bodyPressSample sel arg) s

/-- The judgement of an early opening, with no new sample (R161): the state with the cycle ended, and
the outcome. -/
def State.judgeOpening (s : State) (h : HeadId) : State × PressOutcome :=
  let c := (s.thermal.get h).cycle
  let met := ((s.ticket c.platen).map fun k => k.meetsTarget c.cls).getD false
  if met then
    ((s.modifyTicket c.platen fun k => k.completeCycle c.cls).endCycle h, .transit)
  else
    let r := s.judgeShort c.platen c.cls
    (r.1.endCycle h, r.2.1)

/-- The groups of READ_THERMAL (R164). -/
def thermalGroup (s : State) (h : HeadId) : Nat → Option (List Field)
  | 0 =>
    let c := (s.heads.get h).cls
    some [(1, classCode c), (8, (s.thermal.get h).setpoint), (8, (s.pass.get c).defSetpoint),
          (8, (s.pass.get c).ceiling)]
  | 1 =>
    let c := (s.thermal.get h).cycle
    some [flag c.active, (6, c.platen.val), (1, classCode c.cls), (10, c.samples),
          (2, moveDirCode c.prevDir), (4, c.step)]
  | _ => none

/-- READ_THERMAL (R164). -/
def bodyReadThermal (sel : Selector) (arg : Arg) : Body := fun s =>
  match s.presentHead (bitsAt arg 0 1) with
  | none => (answer0 .notFound, s)
  | some h =>
    match thermalGroup s h sel.toNat with
    | none => (answer0 .notFound, s)
    | some fs => (⟨.ok, groupWord arg fs⟩, s)

def execReadThermal (p : Port) (sel : Selector) (arg : Arg) (s : State) :
    Host.Outcome State Fault Refusal :=
  takeFrame .readThermal p (bodyReadThermal sel arg) s

end Sys2Proof.Machine
end

