-- ==== Sys2Proof/Machine/Press.lean ====
section
/-! DEFINITION. The Press Arbiter's commands and timer expiries (spec/08). -/

namespace Sys2Proof.Machine

open Sys2Proof

/-! ## The mailbox and the press cycle -/

/-- TAKE_ASSIGNMENT (R134). -/
def bodyTakeAssignment (sel : Selector) : Body := fun s =>
  match s.presentHead sel.toNat with
  | none => (answer0 .notFound, s)
  | some h =>
    match (s.heads.get h).mailbox with
    | none => (answer0 .none, s)
    | some a =>
      let s1 := s.setMailbox h none
      let s2 :=
        match a with
        | .closeOn _ _ _ _ => s1.modifyHead h fun d => { d with closeOnTaken := true }
        | .release => if (s.heads.get h).state = .free then (s1.startPark h).settle else s1
        | _ => s1
      (answer .ok (assignmentFields a), s2)

def execTakeAssignment (sel : Selector) (s : State) : Host.Outcome State Fault Refusal :=
  takeFrame .takeAssignment .press (bodyTakeAssignment sel) s

/-- LATE where the late mark is set, BAD_STATE otherwise (R140). -/
def lateOrBad (d : Head) : Answer := answer0 (if d.late then .late else .badState)

/-- PRESS_CLOSED on an ASSIGNED head whose CLOSE_ON has been taken: the head is CLOSED, the sample
timer starts, and the cycle begins (R135, R152). -/
def State.closeHead (s : State) (h : HeadId) (p : PlatenIx) : State :=
  let c := (s.heads.get h).cls
  let s1 := s.modifyHead h fun d =>
    { d with state := .closed,
             timer := some ⟨.sample, s.press.sampleTimeout * ticksPer100ms⟩ }
  s1.modifyThermal h fun t =>
    { t with cycle := { active := true, platen := p, cls := c, samples := 0, prevDir := .none,
                        step := (s.pass.get c).baseStep } }

/-- PRESS_CLOSED (R135). -/
def bodyPressClosed (sel : Selector) : Body := fun s =>
  match s.presentHead sel.toNat with
  | none => (answer0 .notFound, s)
  | some h =>
    let d := s.heads.get h
    match d.state with
    | .assigned =>
      if d.closeOnTaken then
        match d.platen with
        | some p => (answer .ok [(6, p.val)], s.closeHead h p)
        | none => (answer0 .badState, s)
      else (answer0 .notReady, s)
    | .releasing => (answer0 .late, s)
    | .closed => (answer0 .badState, s)
    | _ => (lateOrBad d, s)

def execPressClosed (sel : Selector) (s : State) : Host.Outcome State Fault Refusal :=
  takeFrame .pressClosed .press (bodyPressClosed sel) s

/-- The platen of an opened head goes by its outcome, the mailbox is emptied, the head is freed and
the Arbiter settles (R137). -/
def State.openHead (s : State) (h : HeadId) (o : PressOutcome) : State :=
  ((((s.setMailbox h none).sendPlaten h o).freeHead h)).settle

/-- PRESS_OPENED (R137). -/
def bodyPressOpened (sel : Selector) : Body := fun s =>
  match s.presentHead sel.toNat with
  | none => (answer0 .notFound, s)
  | some h =>
    let d := s.heads.get h
    let p := (d.platen.map Fin.val).getD 0
    match d.state with
    | .releasing => (answer .ok [(6, p), (1, outcomeCode d.outcome)], s.openHead h d.outcome)
    | .closed =>
      let r := s.judgeOpening h
      (answer .ok [(6, p), (1, outcomeCode r.2)], r.1.openHead h r.2)
    | .assigned => (answer .ok [(6, p), (1, outcomeCode .return_)], s.openHead h .return_)
    | _ => (lateOrBad d, s)

def execPressOpened (sel : Selector) (s : State) : Host.Outcome State Fault Refusal :=
  takeFrame .pressOpened .press (bodyPressOpened sel) s

/-! ## Declining and restoring -/

/-- HEAD_DECLINE's effect (R143). -/
def State.decline (s : State) (h : HeadId) (on : Bool) : State :=
  let d := s.heads.get h
  match on, d.state with
  | true, .free | true, .parked =>
    let s1 := s.modifyHead h fun d =>
      { d with state := .declining, declinePending := false, timer := none }
    match d.mailbox with
    | some (.park _ _) | some (.setpoint _) => s1.setMailbox h none
    | _ => s1
  | true, .declining => s
  | true, _ => s.modifyHead h fun d => { d with declinePending := true }
  | false, .declining => ((s.modifyHead h fun d => { d with state := .free }).startPark h).settle
  | false, _ => s.modifyHead h fun d => { d with declinePending := false }

/-- HEAD_DECLINE (R143). -/
def bodyHeadDecline (sel : Selector) (arg : Arg) : Body := fun s =>
  match s.presentHead sel.toNat with
  | none => (answer0 .notFound, s)
  | some h =>
    let s1 := s.decline h (arg.getLsbD 0)
    (answer .ok [(3, headStateCode (s1.heads.get h).state)], s1)

def execHeadDecline (sel : Selector) (arg : Arg) (s : State) : Host.Outcome State Fault Refusal :=
  takeFrame .headDecline .press (bodyHeadDecline sel arg) s

/-- RESTORE_HEAD (R141). -/
def bodyRestoreHead (sel : Selector) : Body := fun s =>
  match s.presentHead sel.toNat with
  | none => (answer0 .notFound, s)
  | some h =>
    if (s.heads.get h).state = .isolated then (answer0 .ok, (s.freeHead h).settle)
    else (answer0 .badState, s)

def execRestoreHead (sel : Selector) (s : State) : Host.Outcome State Fault Refusal :=
  takeFrame .restoreHead .order (bodyRestoreHead sel) s

/-! ## Timeouts (R138, R139) -/

/-- The head is running a timer of the kind: its expiry is an event that can come (R125). The time
left is the tick's concern (log 2). -/
def Head.runs (d : Head) (k : TimerKind) : Bool :=
  match d.timer with
  | some t => t.kind == k
  | none => false

/-- HEAD_ISOLATED's timer code (section 11.4). -/
def isolatedCode : TimerKind → Nat
  | .close => 0
  | .sample => 1
  | .release => 2
  | .park => 3

/-- A head out of a timeout: ISOLATED with HEAD_ISOLATED raised, or DECLINING or FREE (R138, R139). -/
def State.afterTimeout (s : State) (h : HeadId) (k : TimerKind) (p : Nat) : State :=
  if s.press.isolation then
    (s.modifyHead h fun d => { d.emptied with state := .isolated }).raise .headIsolated
      [(6, p), (2, 0), (1, headCode h), (2, isolatedCode k)]
  else s.freeHead h

/-- Step 2 of R138: a GOOD ticket's head retries rise, and the platen is spoiled or returned. -/
def State.timeoutPlaten (s : State) (h : HeadId) : State :=
  match (s.heads.get h).platen with
  | none => s
  | some p =>
    match s.ticket p with
    | none => s.sendPlaten h .return_
    | some t =>
      if t.disposition = .good then
        let s1 := s.modifyTicket p fun t => { t with headRetries := satAdd 255 t.headRetries 1 }
        if s.press.retryLimit ≠ 0 ∧ s.press.retryLimit < satAdd 255 t.headRetries 1 then
          (s1.spoil p .headRetries).sendPlaten h .transit
        else s1.sendPlaten h .return_
      else s.sendPlaten h .return_

/-- The expiry of a close or sample timer (R138). -/
def State.pressTimeout (s : State) (h : HeadId) (k : TimerKind) : State :=
  let p := ((s.heads.get h).platen.map Fin.val).getD 0
  let s1 := if (s.heads.get h).state = .closed then s.endCycle h else s
  let s2 := (s1.timeoutPlaten h).setMailbox h none
  let s3 := s2.modifyHead h fun d => { d with late := true }
  (s3.afterTimeout h k p).settle

/-- CLOSE_TIMER_EXPIRY (R138). Without a running close timer there is no expiry and nothing happens. -/
def execCloseTimerExpiry (h : HeadId) (s : State) : Host.Outcome State Fault Refusal :=
  if (s.heads.get h).runs .close then .next (s.pressTimeout h .close) else .next s

/-- SAMPLE_TIMER_EXPIRY (R138). -/
def execSampleTimerExpiry (h : HeadId) (s : State) : Host.Outcome State Fault Refusal :=
  if (s.heads.get h).runs .sample then .next (s.pressTimeout h .sample) else .next s

/-- The expiry of a release timer (R139). -/
def State.releaseTimeout (s : State) (h : HeadId) : State :=
  let d := s.heads.get h
  let p := (d.platen.map Fin.val).getD 0
  let s1 := (s.sendPlaten h d.outcome).modifyHead h fun d => { d with late := true }
  let s2 := if s.press.isolation then s1.setMailbox h none else s1
  (s2.afterTimeout h .release p).settle

/-- RELEASE_TIMER_EXPIRY (R139). -/
def execReleaseTimerExpiry (h : HeadId) (s : State) : Host.Outcome State Fault Refusal :=
  if (s.heads.get h).runs .release then .next (s.releaseTimeout h) else .next s

/-- The expiry of a park timer (R142), with the grant evaluation of a head entering PARKED (R131). -/
def State.parkTimeout (s : State) (h : HeadId) : State := (s.parkNow h).grantEval

/-- PARK_TIMER_EXPIRY (R142). -/
def execParkTimerExpiry (h : HeadId) (s : State) : Host.Outcome State Fault Refusal :=
  if (s.heads.get h).runs .park then .next (s.parkTimeout h) else .next s

/-! ## Reading the press (R145) -/

/-- The time left of a timer in 100 ms, rounded up (R145). -/
def timeLeft : Option Timer → Nat
  | none => 0
  | some t => (t.left + (ticksPer100ms - 1)) / ticksPer100ms

/-- The fields of a pending assignment as READ_PRESS group MAILBOX lists them (R145). DESIGN CHOICE
(log 24): a platen reads as its number, the class takes 1 bit, 1 for CURE, and a field that the assignment
does not have reads 0. -/
def mailboxFields : Option Assignment → List Field
  | some (.closeOn p c sp ch) => [(6, p.val), (1, classCode c), (8, sp), flag ch]
  | some (.park c sp) => [(6, 0), (1, classCode c), (8, sp), (1, 0)]
  | some (.setpoint sp) => [(6, 0), (1, 0), (8, sp), (1, 0)]
  | some .release | none => []

/-- The groups of READ_PRESS about a head: HEAD, MAILBOX, TIMER (R145). DESIGN CHOICE (log 24): a platen
reads as its number, so that platen 0 and an absent one read alike. -/
def headGroup (s : State) (h : HeadId) : Nat → List Field
  | 0 =>
    let d := s.heads.get h
    [flag (s.present h), (3, headStateCode d.state), (1, classCode d.cls),
     (6, (d.platen.map Fin.val).getD 0), (2, listCode d.origin), (1, outcomeCode d.outcome),
     flag d.declinePending, flag d.late, (3, timerCode d.timer)]
  | 1 =>
    let d := s.heads.get h
    [(3, assignmentCode d.mailbox), flag d.closeOnTaken] ++ mailboxFields d.mailbox
  | _ => [(3, timerCode (s.heads.get h).timer), (13, timeLeft (s.heads.get h).timer)]

/-- READ_PRESS (R145): groups HEAD 0, MAILBOX 1, TIMER 2, LIST 3, ROTATION 4. DESIGN CHOICE (log 7): at
NOT_FOUND the length stands alone at bit 0. -/
def bodyReadPress (sel : Selector) (arg : Arg) : Body := fun s =>
  match sel.toNat with
  | 3 =>
    let q := s.lists.get (listOf (bitsAt arg 0 2))
    match q[bitsAt arg 2 6]? with
    | some p => (⟨.ok, groupWord arg [(6, p.val), (6, q.length)]⟩, s)
    | none => (⟨.notFound, groupWord arg [(6, q.length)]⟩, s)
  | 4 =>
    (⟨.ok, groupWord arg [(1, arbModeCode s.press.mode), (2, level1Code s.level1),
      (1, level2Code s.level2)]⟩, s)
  | g =>
    if g < 3 then
      match s.presentHead (bitsAt arg 0 1) with
      | some h => (⟨.ok, groupWord arg (headGroup s h g)⟩, s)
      | none => (answer0 .notFound, s)
    else (answer0 .notFound, s)

def execReadPress (p : Port) (sel : Selector) (arg : Arg) (s : State) :
    Host.Outcome State Fault Refusal :=
  takeFrame .readPress p (bodyReadPress sel arg) s

end Sys2Proof.Machine
end

