-- ==== Sys2Proof/Machine/Platens.lean ====
section
/-! DEFINITION. The Platen Tracker's station queues, ARRIVE (R46 to R51) and READ_PLATEN (R53,
R54). -/

namespace Sys2Proof.Machine

open Sys2Proof

/-! ## Queues (R43) -/

/-- The place of a platen in a queue, counted from 0 at the head; 0 where it is not in it. -/
def positionIn (q : List PlatenIx) (p : PlatenIx) : Nat :=
  if p ∈ q then q.idxOf p else 0

/-- A platen taken out of the pretreat or the print queue; the entries behind it close up (R43). -/
def State.leavePretreatQueue (s : State) (p : PlatenIx) : State :=
  { s with pretreatQueue := s.pretreatQueue.erase p }
def State.leavePrintQueue (s : State) (p : PlatenIx) : State :=
  { s with printQueue := s.printQueue.erase p }

/-- A platen appended to the pretreat or the print queue (R49). -/
def State.joinPretreatQueue (s : State) (p : PlatenIx) : State :=
  ({ s with pretreatQueue := s.pretreatQueue ++ [p] }).setLocation p .pretreatQueue
def State.joinPrintQueue (s : State) (p : PlatenIx) : State :=
  ({ s with printQueue := s.printQueue ++ [p] }).setLocation p .printQueue

/-! ## ARRIVE -/

/-- The platen already stands at the station of the port (R47). -/
def standsAt (port : Port) (l : Location) : Bool :=
  match port, l with
  | .pretreat, .pretreatQueue => true
  | .print, .printQueue => true
  | .press, .rack _ => true
  | _, _ => false

/-- The platen's location lets an ARRIVE move or keep it (R46, check 2). -/
def canArrive : Location → Bool
  | .loadZone | .transit | .pretreatQueue | .printQueue | .rack _ => true
  | .pretreatSlot | .bed _ | .head _ => false

/-- Data of an ARRIVE on the PRETREAT or PRINT port: position, queue length, misroute mark (R49). -/
def queueAnswer (q : List PlatenIx) (p : PlatenIx) (misroute : Bool) : Answer :=
  answer .ok [(6, positionIn q p), (6, q.length), flag misroute]

/-- The place of an ARRIVE's platen as R51 lists it: RACK with its position, HEAD_0, HEAD_1 or
TRANSIT (log 12). -/
def pressPlace (s : State) (p : PlatenIx) : List Field :=
  match s.location p with
  | .rack l => [(2, 0), (6, positionIn (s.lists.get l) p)]
  | .head .h0 => [(2, 1), (6, 0)]
  | .head .h1 => [(2, 2), (6, 0)]
  | _ => [(2, 3), (6, 0)]

/-- Data of an ARRIVE on the PRESS port: the list joined, or none, the place, the misroute mark
(R51). -/
def pressAnswer (r : Result) (s : State) (l : Option RackList) (p : PlatenIx) (misroute : Bool) :
    Answer :=
  answer r ([(3, match l with | some l => listCode l + 1 | none => 0)] ++ pressPlace s p ++
    [flag misroute])

/-- Steps 1 to 3 of R48 where the platen stands in another station's collection: it is taken out, its
misroute count rises and MISROUTE is raised. The second component is the misroute mark. -/
def State.takeOut (s : State) (port : Port) (p : PlatenIx) : State × Bool :=
  let counted (s1 : State) : State :=
    (s1.modifyPlaten p fun r => { r with misroutes := satAdd 255 r.misroutes 1 }).raise .misroute
      [(6, p.val), (2, 0), (2, portCode port), (4, locationCode (s.location p))]
  match s.location p with
  | .pretreatQueue => (counted (s.leavePretreatQueue p), true)
  | .printQueue => (counted (s.leavePrintQueue p), true)
  | .rack l => (counted (s.leaveList l p), true)
  | _ => (s, false)

/-- The placement of an ARRIVE (R49, R50) with its answer. -/
def State.place (s : State) (port : Port) (p : PlatenIx) (misroute : Bool) : Answer × State :=
  match port with
  | .pretreat =>
    let s1 := s.joinPretreatQueue p
    (queueAnswer s1.pretreatQueue p misroute, s1)
  | .print =>
    let s1 := s.joinPrintQueue p
    (queueAnswer s1.printQueue p misroute, s1)
  | _ =>
    match (s.ticket p).bind Ticket.rackList with
    | some l =>
      let s1 := (s.joinTail l p).grantEval
      (pressAnswer .ok s1 (some l) p misroute, s1)
    | none =>
      let s1 := s.setLocation p .transit
      (pressAnswer .pass s1 none p misroute, s1)

/-- The answer to an ARRIVE for a platen that already stands at the station (R47). -/
def standingAnswer (s : State) (port : Port) (p : PlatenIx) : Answer :=
  match port, s.location p with
  | .pretreat, _ => queueAnswer s.pretreatQueue p false
  | .print, _ => queueAnswer s.printQueue p false
  | _, .rack l => pressAnswer .ok s (some l) p false
  | _, _ => pressAnswer .ok s none p false

/-- ARRIVE (R46 to R51). -/
def bodyArrive (port : Port) (sel : Selector) : Body := fun s =>
  match s.platenOf sel.toNat with
  | none => (answer0 .notFound, s)
  | some p =>
    if canArrive (s.location p) = false then (answer0 .badState, s)
    else if standsAt port (s.location p) then (standingAnswer s port p, s)
    else (s.takeOut port p).1.place port p (s.takeOut port p).2

def execArrive (p : Port) (sel : Selector) (s : State) : Host.Outcome State Fault Refusal :=
  takeFrame .arrive p (bodyArrive p sel) s

/-! ## READ_PLATEN (R53) -/

/-- The position of a platen in its queue or list (R53). -/
def State.position (s : State) (p : PlatenIx) : Nat :=
  match s.location p with
  | .pretreatQueue => positionIn s.pretreatQueue p
  | .printQueue => positionIn s.printQueue p
  | .rack l => positionIn (s.lists.get l) p
  | _ => 0

/-- The list of a platen at the rack or the head of one at a head, from 1; 0 for neither (R182;
log 13). -/
def listOrHead : Location → Nat
  | .rack l => listCode l + 1
  | .head h => headCode h + 1
  | _ => 0

/-- Group LOCATION. -/
def locationGroup (s : State) (p : PlatenIx) : List Field :=
  let r := s.platens.get p
  [(4, locationCode r.location), (3, listOrHead r.location), (6, s.position p), (8, r.misroutes),
   flag r.ticket.isSome]

/-- An optional target: its present mark and its value, 0 when absent (R23). -/
def optionalFields (o : Option Nat) : List Field := [flag o.isSome, (16, o.getD 0)]

/-- The ticket groups, LINK 1 to CURE_CREDIT 8. -/
def ticketGroup (t : Ticket) : Nat → Option (List Field)
  | 1 => some [(8, t.line.val), (8, t.serial), (6, t.artwork.val), (3, stageCode t.stage),
               (2, dispositionCode t.disposition), (3, reasonCode t.reason)]
  | 2 => some [(3, t.fabric.val), (1, shadeCode t.shade), (1, priorityCode t.priority),
               (10, t.dose)]
  | 3 => some [(16, t.lc), (16, t.lw)]
  | 4 => some [(11, t.applied), (3, t.sprays), (4, t.presses), (4, t.scorches),
               (8, t.headRetries)]
  | 5 => some (optionalFields t.dryTarget)
  | 6 => some [(16, t.dryCredit)]
  | 7 => some (optionalFields t.cureTarget)
  | 8 => some [(16, t.cureCredit)]
  | _ => none

/-- READ_PLATEN (R53, R54): the platen in bits 5..0 of the argument (R182; log 14). -/
def bodyReadPlaten (sel : Selector) (arg : Arg) : Body := fun s =>
  match s.platenOf (bitsAt arg 0 6) with
  | none => (answer0 .notFound, s)
  | some p =>
    if sel.toNat = 0 then (⟨.ok, groupWord arg (locationGroup s p)⟩, s)
    else if 8 < sel.toNat then (answer0 .notFound, s)
    else
      match s.ticket p with
      | none => (answer0 .none, s)
      | some t =>
        match ticketGroup t sel.toNat with
        | some fs => (⟨.ok, groupWord arg fs⟩, s)
        | none => (answer0 .notFound, s)

def execReadPlaten (p : Port) (sel : Selector) (arg : Arg) (s : State) :
    Host.Outcome State Fault Refusal :=
  takeFrame .readPlaten p (bodyReadPlaten sel arg) s

end Sys2Proof.Machine
end

