-- ==== Sys2Proof/Machine/Pretreat.lean ====
section
/-! DEFINITION. The pretreat station: PRETREAT_START (R100, R101) and PRETREAT_DONE (R102 to
R106). -/

namespace Sys2Proof.Machine

open Sys2Proof

/-- A platen leaves the pretreat queue for TRANSIT (R45). -/
def State.passPretreat (s : State) (p : PlatenIx) : State :=
  (s.leavePretreatQueue p).setLocation p .transit

/-- A platen enters the slot for its first spray (R101). -/
def State.enterSlot (s : State) (p : PlatenIx) : State :=
  let s1 := ({ s.leavePretreatQueue p with slot := some p }).setLocation p .pretreatSlot
  s1.modifyTicket p fun t => { t.advance .bound .pretreating with sprays := 1 }

/-- PRETREAT_START on a queued platen with the slot empty, by its ticket (R101). -/
def startSpray (p : PlatenIx) : Body := fun s =>
  match s.ticket p with
  | none => (answer0 .pass, s.passPretreat p)
  | some t =>
    if t.disposition ≠ .good then (answer0 .pass, s.passPretreat p)
    else if t.stage ≠ .bound then (answer0 .badState, s)
    else if t.dose = 0 then
      (answer0 .skip, (s.passPretreat p).modifyTicket p fun t => t.advance .bound .primed)
    else (answer .ok [(10, t.dose), (3, 1)], s.enterSlot p)

/-- PRETREAT_START (R100). -/
def bodyPretreatStart (sel : Selector) : Body := fun s =>
  match s.platenOf sel.toNat with
  | none => (answer0 .notFound, s)
  | some p =>
    if s.location p ≠ .pretreatQueue then (answer0 .badState, s)
    else
      match s.slot with
      | some q => (answer .busy [(6, q.val)], s)
      | none => startSpray p s

def execPretreatStart (sel : Selector) (s : State) : Host.Outcome State Fault Refusal :=
  takeFrame .pretreatStart .pretreat (bodyPretreatStart sel) s

/-! ## PRETREAT_DONE -/

/-- The platen in the slot goes to TRANSIT and the slot is empty (R44). -/
def State.leaveSlot (s : State) (p : PlatenIx) : State :=
  ({ s with slot := none }).setLocation p .transit

/-- The dry target (R104). -/
def dryTargetOf (row : FabricRow) (applied : Nat) : Nat := min 65535 (applied * row.kdry / 4)

/-- Outcomes of a judged spray (R104, R106). -/
inductive SprayOutcome where
  | good | overdose | underdose
  deriving DecidableEq, Repr

/-- The outcome's code in PRETREAT_DONE's data. DEDUCED (log 22): R104 lists GOOD and OVERDOSE, R106
lists UNDERDOSE, and section 11.4 places neither; the model packs one field of 2 bits in both replies. -/
def sprayCode : SprayOutcome → Nat
  | .good => 0 | .overdose => 1 | .underdose => 2

/-- The judgement of a spray (R103 to R106), for the GOOD ticket `t` in the slot and the amount
reported. -/
def judgeSpray (p : PlatenIx) (t : Ticket) (reported : Nat) : Body := fun s =>
  let row := s.fabric.get t.fabric
  let applied := satAdd 2000 t.applied (min reported 2000)
  let s1 := s.modifyTicket p fun t => { t with applied := applied }
  if t.dose ≤ applied + row.underTol then
    let target := dryTargetOf row applied
    let s2 := s1.modifyTicket p fun t =>
      { t.advance .pretreating .pretreated with dryTarget := some target }
    let mark : SprayOutcome := if t.dose + row.overTol < applied then .overdose else .good
    (answer (if 2000 < reported then .clamped else .ok)
      [(2, sprayCode mark), (11, applied), (16, target)], s2.leaveSlot p)
  else if t.sprays ≤ s.params.resprayLimit then
    let amount := max (t.dose - applied) s.params.minTopup
    (answer .topup [(10, amount), (3, t.sprays + 1)],
      s1.modifyTicket p fun t => { t with sprays := t.sprays + 1 })
  else
    (answer .ok [(2, sprayCode .underdose), (11, applied)], (s1.spoil p .underdose).leaveSlot p)

/-- PRETREAT_DONE (R102): the amount is the whole argument (log 14). -/
def bodyPretreatDone (sel : Selector) (arg : Arg) : Body := fun s =>
  match s.platenOf sel.toNat with
  | none => (answer0 .notFound, s)
  | some p =>
    if s.location p ≠ .pretreatSlot then (answer0 .badState, s)
    else
      match s.ticket p with
      | none => (answer0 .pass, s.leaveSlot p)
      | some t =>
        if t.disposition = .good then judgeSpray p t arg.toNat s
        else (answer0 .pass, s.leaveSlot p)

def execPretreatDone (sel : Selector) (arg : Arg) (s : State) : Host.Outcome State Fault Refusal :=
  takeFrame .pretreatDone .pretreat (bodyPretreatDone sel arg) s

end Sys2Proof.Machine
end

