-- ==== Sys2Proof/Machine/Printing.lean ====
section
/-! DEFINITION. The Print Session Unit and the Stripe Link Transmitter (spec/07). -/

namespace Sys2Proof.Machine

open Sys2Proof

/-! ## The stripe link (R114 to R117) -/

/-- Outcomes of a stripe run (R117), by their code in the notice (section 11.4). -/
inductive StripeOutcome where
  | complete | lengthFault | cut
  deriving DecidableEq, Repr

def stripeOutcomeCode : StripeOutcome → Nat
  | .complete => 0 | .lengthFault => 1 | .cut => 2

/-- Words put on the stripe link (R183; log 5). -/
def State.transmit (s : State) (ws : List StripeOut) : State :=
  { s with stripeOut := s.stripeOut ++ ws }

/-- The START header: the bed in bit 16, the segment in bits 11..8, the segment block in bits 7..0
(R183). DESIGN CHOICE (log 27): the bits that no field occupies are 0. -/
def stripeHeader (bed : Bed) (g : SegIx) (b : Nat) : BitVec 24 :=
  BitVec.ofNat 24 (pack [(8, b), (4, g.val), (4, 0), (1, bedCode bed)])

/-- The end of a stripe run: the record is removed and STRIPE_END is raised (R117). -/
def State.endStripeRun (s : State) (bed : Bed) (r : StripeRun) (o : StripeOutcome) : State :=
  (s.modifyBed bed fun k => { k with run := none }).raise (.stripeEnd bed)
    [(9, r.sent), (1, 0), (2, stripeOutcomeCode o), (4, r.segment.val)]

/-- The segment block of a run's next step: a block, or the EDGE case with the edge block stepped
over (R113, R114). -/
def StripeRun.nextBlock (r : StripeRun) : AccessBlock :=
  match r.dir with
  | .asc => if 255 < r.first + r.nextStep then .edge 255 else .block (r.first + r.nextStep)
  | .desc => if r.first < r.nextStep then .edge 0 else .block (r.first - r.nextStep)

/-- The bed has a run waiting for the link (R116). -/
def State.runWaiting (s : State) (bed : Bed) : Bool :=
  match (s.beds.get bed).run with
  | some r => decide (r.sent < r.count)
  | none => false

/-- The other bed. -/
def otherBed : Bed → Bed
  | .a => .b
  | .b => .a

/-- The bed the free link is handed to (R116). -/
def State.handTo (s : State) : Option Bed :=
  let next := otherBed s.link.lastServed
  if s.runWaiting next then some next
  else if s.runWaiting s.link.lastServed then some s.link.lastServed
  else none

/-- The judgement of the handed run's step (R114): the send begins, or the run ends LENGTH_FAULT with
the fault recorded and the link free again. -/
def State.judgeStep (s : State) (bed : Bed) : State :=
  let k := s.beds.get bed
  match k.run with
  | none => s
  | some r =>
    let seg := s.segment k.artwork r.segment
    let flags := accessFlags seg .print false r.nextBlock
    if flags.any then
      (s.recordFault .print flags .stripeBlock k.artwork r.segment r.nextBlock bed).endStripeRun
        bed r .lengthFault
    else
      let b := r.nextBlock.recorded
      ({ s with link := ⟨some ⟨bed, r.segment, b, seg.base + b⟩, bed⟩ }).transmit
        [.start (stripeHeader bed r.segment b)]

/-- One handing of the link, where it is free and a run waits (R116). -/
def State.handOnce (s : State) : State :=
  match s.link.sending with
  | some _ => s
  | none =>
    match s.handTo with
    | some bed => s.judgeStep bed
    | none => s

/-- The link is handed until a send begins or no run waits (R116). Each refused step ends a run, so
two handings are the most it takes. -/
def State.handLink (s : State) : State := s.handOnce.handOnce

/-- What has gone out of a block being sent when it is cut: the words already out, and a CUT (R183).
How many words those are is a free value (log 5). -/
def State.cutWords (s : State) (k : Sending) : List StripeOut :=
  [.data ((s.storeBlock k.store).take (Config.wordsOut s.stripeOut.length)), .cut]

/-- The link sends IDLE from the end of the event that leaves it free (R183). -/
def State.idleFrom (s before : State) : State :=
  if before.link.sending.isSome && s.link.sending.isNone then s.transmit [.idle] else s

/-- A run ended before its end: a block of it whose send has begun ends with a cut marker and is not
counted (R115, R118). -/
def State.cutSend (s : State) (bed : Bed) : State :=
  match s.link.sending with
  | some k =>
    if k.bed = bed then
      ({ s with link := { s.link with sending := none } }).transmit (s.cutWords k)
    else s
  | none => s

/-- A cut of the bed's open run (R118): outcome CUT, and the link is handed again. -/
def State.cutRun (s : State) (bed : Bed) (r : StripeRun) : State :=
  (((s.cutSend bed).endStripeRun bed r .cut).handLink).idleFrom s

/-- The completion of the send on the link (R115). -/
def State.completeSend (s : State) (k : Sending) : State :=
  let s1 := ({ s with link := { s.link with sending := none } }).transmit
    [.data (s.storeBlock k.store), .endMark]
  let s2 := s1.modifyBed k.bed fun b => { b with sent := satAdd 65535 b.sent 1 }
  match (s.beds.get k.bed).run with
  | none => s2.handLink.idleFrom s
  | some r =>
    let r2 := { r with sent := r.sent + 1, nextStep := r.nextStep + 1 }
    let s3 := s2.modifyBed k.bed fun b => { b with run := some r2 }
    ((if r2.sent = r2.count then s3.endStripeRun k.bed r2 .complete else s3).handLink).idleFrom s

/-- STRIPE_SEND_COMPLETE (R115). With no send on the link there is no end marker. -/
def execStripeSendComplete (s : State) : Host.Outcome State Fault Refusal :=
  match s.link.sending with
  | some k => .next (s.completeSend k)
  | none => .next s

/-! ## PRINT_START (R111, R112) -/

/-- A platen leaves the print queue for TRANSIT (R45). -/
def State.passPrint (s : State) (p : PlatenIx) : State :=
  (s.leavePrintQueue p).setLocation p .transit

/-- The session opened for a PRIMED platen (R112). -/
def State.openSession (s : State) (bed : Bed) (p : PlatenIx) (t : Ticket) : State :=
  let s1 := (s.leavePrintQueue p).setLocation p (.bed bed)
  let s2 := s1.modifyTicket p fun t => t.advance .primed .printing
  s2.modifyBed bed fun _ =>
    { active := true, platen := p, artwork := t.artwork, line := t.line, sent := 0, run := none }

/-- PRINT_START on an IDLE bed for a queued platen, by its ticket (R112; log 15 for the two stages
that cannot stand in the print queue). -/
def startPrint (bed : Bed) (p : PlatenIx) : Body := fun s =>
  match s.ticket p with
  | none => (answer0 .pass, s.passPrint p)
  | some t =>
    if t.disposition ≠ .good then (answer0 .pass, s.passPrint p)
    else
      match t.stage with
      | .primed => (answer .ok [(6, t.artwork.val), (8, t.line.val)], s.openSession bed p t)
      | .bound | .pretreating | .pretreated => (answer .notReady [(3, stageCode t.stage)], s)
      | .printing | .printed | .cured => (answer .badState [(3, stageCode t.stage)], s)

/-- PRINT_START (R111): the bed in the selector, the platen in bits 7..0 of the argument. -/
def bodyPrintStart (sel : Selector) (arg : Arg) : Body := fun s =>
  match bedOf sel.toNat, s.platenOf (bitsAt arg 0 8) with
  | some bed, some p =>
    if (s.beds.get bed).active then (answer .busy [(6, (s.beds.get bed).platen.val)], s)
    else if s.location p ≠ .printQueue then (answer0 .badState, s)
    else startPrint bed p s
  | _, _ => (answer0 .notFound, s)

def execPrintStart (sel : Selector) (arg : Arg) (s : State) : Host.Outcome State Fault Refusal :=
  takeFrame .printStart .print (bodyPrintStart sel arg) s

/-! ## STRIPE and STRIPE_CUT (R113, R118) -/

/-- The ticket of a bed's session is GOOD (R113, check 4). -/
def State.sessionGood (s : State) (bed : Bed) : Bool :=
  match s.ticket (s.beds.get bed).platen with
  | some t => t.disposition == .good
  | none => false

/-- STRIPE (R113): segment, first block, count minus 1 and direction as section 11.4 places them. -/
def bodyStripe (sel : Selector) (arg : Arg) : Body := fun s =>
  match bedOf sel.toNat with
  | none => (answer0 .notFound, s)
  | some bed =>
    let k := s.beds.get bed
    let g := segAt arg 28
    let first := bitsAt arg 20 8
    let count := bitsAt arg 12 8 + 1
    let flags := accessFlags (s.segment k.artwork g) .print false (.atOpen first)
    if k.active = false then (answer0 .badState, s)
    else if k.run.isSome then (answer0 .busy, s)
    else if s.sessionGood bed = false then (answer0 .pass, s)
    else if flags.any then
      (answer0 .fault, s.recordFault .print flags .stripeOpen k.artwork g (.atOpen first) bed)
    else
      let r : StripeRun :=
        { segment := g, dir := if arg.getLsbD 11 then .desc else .asc, first := first,
          count := count, sent := 0, nextStep := 0 }
      (answer .ok [(9, count)], (s.modifyBed bed fun k => { k with run := some r }).handLink)

def execStripe (sel : Selector) (arg : Arg) (s : State) : Host.Outcome State Fault Refusal :=
  takeFrame .stripe .print (bodyStripe sel arg) s

/-- STRIPE_CUT (R118). -/
def bodyStripeCut (sel : Selector) : Body := fun s =>
  match bedOf sel.toNat with
  | none => (answer0 .notFound, s)
  | some bed =>
    match (s.beds.get bed).run with
    | some r => (answer .ok [(9, r.sent)], s.cutRun bed r)
    | none => (answer0 .none, s)

def execStripeCut (sel : Selector) (s : State) : Host.Outcome State Fault Refusal :=
  takeFrame .stripeCut .print (bodyStripeCut sel) s

/-! ## PRINT_END (R119 to R121) -/

/-- The cure target (R120). -/
def cureTargetOf (row : FabricRow) (lc lw applied : Nat) : Nat :=
  min 65535 (row.cbase + (lc * 3 + lw * 8) / 64 + applied * row.wet / 16)

/-- The bed is let go: the platen to TRANSIT and the session IDLE (R119, steps 3 and 4). -/
def State.closeSession (s : State) (bed : Bed) : State :=
  (s.setLocation (s.beds.get bed).platen .transit).modifyBed bed fun _ => Session.idle

/-- Step 1 of PRINT_END: an open run is cut (R119). -/
def State.cutForEnd (s : State) (bed : Bed) : State :=
  match (s.beds.get bed).run with
  | some r => s.cutRun bed r
  | none => s

/-- The reply data of PRINT_END (section 11.4): cure target, session blocks sent held at 16383, the
outcome adopted with GOOD 0, FAILED 1, VOID 2. -/
def printEndFields (target sent outcome : Nat) : List Field :=
  [(16, target), (14, min 16383 sent), (2, outcome)]

/-- PRINT_END (R119): the bed in the selector, the outcome in bit 0 of the argument. A ticket that is
not GOOD is VOID (R121). -/
def bodyPrintEnd (sel : Selector) (arg : Arg) : Body := fun s =>
  match bedOf sel.toNat with
  | none => (answer0 .notFound, s)
  | some bed =>
    let k := s.beds.get bed
    if k.active = false then (answer0 .badState, s)
    else
      let s1 := s.cutForEnd bed
      match s1.ticket k.platen with
      | some t =>
        if t.disposition = .good then
          if arg.getLsbD 0 then
            (answer .ok (printEndFields 0 k.sent 1),
              (s1.spoil k.platen .printFailed).closeSession bed)
          else
            let target := cureTargetOf (s1.fabric.get t.fabric) t.lc t.lw t.applied
            let s2 := s1.modifyTicket k.platen fun t =>
              { t.advance .printing .printed with cureTarget := some target }
            (answer .ok (printEndFields target k.sent 0), s2.closeSession bed)
        else (answer .pass (printEndFields 0 k.sent 2), s1.closeSession bed)
      | none => (answer .pass (printEndFields 0 k.sent 2), s1.closeSession bed)

def execPrintEnd (sel : Selector) (arg : Arg) (s : State) : Host.Outcome State Fault Refusal :=
  takeFrame .printEnd .print (bodyPrintEnd sel arg) s

/-! ## READ_BED (R123) -/

/-- The groups of READ_BED: SESSION 0, RUN 1, LINK 2. -/
def bedGroup (s : State) (bed : Bed) : Nat → Option (List Field)
  | 0 =>
    let k := s.beds.get bed
    some [flag k.active, (6, k.platen.val), (6, k.artwork.val), (8, k.line.val), (16, k.sent)]
  | 1 =>
    match (s.beds.get bed).run with
    | some r =>
      some [flag true, (4, r.segment.val), (1, runDirCode r.dir), (8, r.first), (9, r.count),
            (9, r.sent)]
    | none => some [flag false]
  | 2 =>
    some [(2, match s.link.sending with | some k => bedCode k.bed + 1 | none => 0),
          (1, bedCode s.link.lastServed)]
  | _ => none

/-- READ_BED (R123): the bed in bits 7..0 of the argument. -/
def bodyReadBed (sel : Selector) (arg : Arg) : Body := fun s =>
  match bedOf (bitsAt arg 0 8) with
  | none => (answer0 .notFound, s)
  | some bed =>
    match bedGroup s bed sel.toNat with
    | none => (answer0 .notFound, s)
    | some fs => (⟨.ok, groupWord arg fs⟩, s)

def execReadBed (p : Port) (sel : Selector) (arg : Arg) (s : State) :
    Host.Outcome State Fault Refusal :=
  takeFrame .readBed p (bodyReadBed sel arg) s

end Sys2Proof.Machine
end

