-- ==== Sys2Proof/Machine/Resets.lean ====
section
/-! DEFINITION. LINE_CLEAR (R180 and the owners' rules R17, R36, R55, R79, R124, R146, R165) and
FULL_RESET (R181 and the owners' rules). -/

namespace Sys2Proof.Machine

open Sys2Proof

/-! ## LINE_CLEAR -/

/-- The Order Book and the line counts of the artworks (R17, R79). -/
def State.clearBook (s : State) : State :=
  { s with lines := Table.replicate 256 OrderLine.free, age := [] }

/-- The line and ticket counts of every artwork entry (R36, R79). -/
def State.clearCounts (s : State) : State :=
  { s with artworks := s.artworks.map fun e => { e with lines := 0, tickets := 0 } }

/-- Tickets, locations, misroute counts, queues and slot (R36, R55). -/
def State.clearPlatens (s : State) : State :=
  { s with platens := Table.replicate 48 ⟨.transit, none, 0⟩, pretreatQueue := [],
           printQueue := [], slot := none }

/-- A bed session and its run, without an outcome; a block being sent is cut (R124). -/
def State.clearBed (s : State) (bed : Bed) : State :=
  (s.cutSend bed).modifyBed bed fun _ => Session.idle

/-- A head at LINE_CLEAR (R146, R165). The lists are empty, so that the grant evaluation of a head that
enters FREE grants it nothing (R131), and with a park delay of 0 it parks within the command (R142).
DESIGN CHOICE (log 23): under park policy DEFAULT that parking may change the class and the setpoint,
which R146, R151 and R165 have LINE_CLEAR keep; the model takes R142. -/
def State.clearHead (s : State) (h : HeadId) : State :=
  let s1 := s.modifyHead h fun d => { d with late := false }
  let s2 :=
    match (s.heads.get h).state with
    | .assigned | .closed | .releasing => ((s1.post h .release).freeHead h).parkIfDue h
    | _ => s1
  s2.endCycle h

/-- The press lists and heads (R146). -/
def State.clearPress (s : State) : State :=
  ({ s with lists := ⟨[], [], [], []⟩ }.clearHead .h0).clearHead .h1

/-- LINE_CLEARED raised on all four ports with the line-clear count (R180). -/
def State.raiseCleared (s : State) : State :=
  [Port.order, .pretreat, .print, .press].foldl
    (fun s p => s.raise (.lineCleared p) [(8, s.lineClears)]) s

/-- LINE_CLEAR's effect. -/
def State.lineClear (s : State) : State :=
  let s1 := s.clearBook.clearCounts.clearPlatens
  let s2 := (((s1.clearBed .a).clearBed .b).idleFrom s).clearPress
  { s2 with lineClears := (s.lineClears + 1) % 256 }.raiseCleared

/-- LINE_CLEAR (R180). -/
def bodyLineClear : Body := fun s =>
  (answer .ok [(8, (s.lineClears + 1) % 256)], s.lineClear)

def execLineClear (s : State) : Host.Outcome State Fault Refusal :=
  takeFrame .lineClear .order bodyLineClear s

/-! ## FULL_RESET -/

/-- A port after a full reset: its state of R167, the level of its select pin kept (R168). -/
def PortState.afterReset (p : Port) (ps : PortState) : PortState :=
  { PortState.reset p with selectAsserted := ps.selectAsserted }

/-- The ports after a full reset. -/
def resetPorts (t : PerPort PortState) : PerPort PortState :=
  ⟨t.order.afterReset .order, t.pretreat.afterReset .pretreat, t.print.afterReset .print,
   t.press.afterReset .press⟩

/-- The stripe link after a full reset: a block in progress ends with a cut marker (R124), and the free
link sends IDLE (R183). -/
def State.cutAll (s : State) : List StripeOut :=
  match s.link.sending with
  | some k => s.stripeOut ++ s.cutWords k ++ [.idle]
  | none => s.stripeOut

/-- The part after a full reset (R181). The store is not cleared (R57); after a power-on none of its
words holds a defined value (log 4). The output log and the waiting commands are not the part's. -/
def State.fullReset (s : State) (cause : ResetCause) : State :=
  { State.reset with
    ports := resetPorts s.ports
    store := match cause with | .pin => s.store | .powerOn => []
    powerOns := match cause with | .pin => s.powerOns | .powerOn => s.powerOns + 1
    stripeOut := s.cutAll
    pending := s.pending }

/-- FULL_RESET (R181). -/
def execFullReset (cause : ResetCause) (s : State) : Host.Outcome State Fault Refusal :=
  .next (s.fullReset cause)

end Sys2Proof.Machine
end

