-- ==== Sys2Proof/Machine/Frames.lean ====
section
/-! DEFINITION. A frame judged from its bits (R168, R170): FRAME_REFUSED, and the routing of the
command that good bits carry. -/

namespace Sys2Proof.Machine

open Sys2Proof

/-- The command of a frame that passes every check of R170, carried out by the block that owns it
(R168). The rows that are no frame commands are never the command of a frame. -/
def runFrame (i : Instr) (s : State) : Host.Outcome State Fault Refusal :=
  match i with
  | .nop p => Sys2Proof.Machine.execNop p s
  | .extend p arg => Sys2Proof.Machine.execExtend p arg s
  | .readId p => Sys2Proof.Machine.execReadId p s
  | .fetchNotice p => Sys2Proof.Machine.execFetchNotice p s
  | .noticeMaskRead p => Sys2Proof.Machine.execNoticeMaskRead p s
  | .noticeMaskWrite p arg => Sys2Proof.Machine.execNoticeMaskWrite p arg s
  | .readPlaten p sel arg => Sys2Proof.Machine.execReadPlaten p sel arg s
  | .postLine sel arg => Sys2Proof.Machine.execPostLine sel arg s
  | .amendLine arg => Sys2Proof.Machine.execAmendLine arg s
  | .holdLine arg => Sys2Proof.Machine.execHoldLine arg s
  | .cancelLine arg => Sys2Proof.Machine.execCancelLine arg s
  | .retireLine arg => Sys2Proof.Machine.execRetireLine arg s
  | .readLine sel arg => Sys2Proof.Machine.execReadLine sel arg s
  | .loadScan sel arg => Sys2Proof.Machine.execLoadScan sel arg s
  | .unload sel => Sys2Proof.Machine.execUnload sel s
  | .artworkOpen sel => Sys2Proof.Machine.execArtworkOpen sel s
  | .segmentSet sel arg => Sys2Proof.Machine.execSegmentSet sel arg s
  | .segmentDrop sel arg => Sys2Proof.Machine.execSegmentDrop sel arg s
  | .artworkDelete sel => Sys2Proof.Machine.execArtworkDelete sel s
  | .loadRun sel arg => Sys2Proof.Machine.execLoadRun sel arg s
  | .loadAbort => Sys2Proof.Machine.execLoadAbort s
  | .readWord sel arg => Sys2Proof.Machine.execReadWord sel arg s
  | .preflightStart sel arg => Sys2Proof.Machine.execPreflightStart sel arg s
  | .preflightAbandon => Sys2Proof.Machine.execPreflightAbandon s
  | .restoreHead sel => Sys2Proof.Machine.execRestoreHead sel s
  | .configRead sel arg => Sys2Proof.Machine.execConfigRead sel arg s
  | .configWrite sel arg => Sys2Proof.Machine.execConfigWrite sel arg s
  | .closeCommissioning => Sys2Proof.Machine.execCloseCommissioning s
  | .lineClear => Sys2Proof.Machine.execLineClear s
  | .clearFault p sel => Sys2Proof.Machine.execClearFault p sel s
  | .readFault p sel arg => Sys2Proof.Machine.execReadFault p sel arg s
  | .readArtwork p sel arg => Sys2Proof.Machine.execReadArtwork p sel arg s
  | .readPreflight p sel arg => Sys2Proof.Machine.execReadPreflight p sel arg s
  | .readBed p sel arg => Sys2Proof.Machine.execReadBed p sel arg s
  | .readPress p sel arg => Sys2Proof.Machine.execReadPress p sel arg s
  | .readThermal p sel arg => Sys2Proof.Machine.execReadThermal p sel arg s
  | .arrive p sel => Sys2Proof.Machine.execArrive p sel s
  | .pretreatStart sel => Sys2Proof.Machine.execPretreatStart sel s
  | .pretreatDone sel arg => Sys2Proof.Machine.execPretreatDone sel arg s
  | .printStart sel arg => Sys2Proof.Machine.execPrintStart sel arg s
  | .stripe sel arg => Sys2Proof.Machine.execStripe sel arg s
  | .stripeCut sel => Sys2Proof.Machine.execStripeCut sel s
  | .printEnd sel arg => Sys2Proof.Machine.execPrintEnd sel arg s
  | .takeAssignment sel => Sys2Proof.Machine.execTakeAssignment sel s
  | .pressClosed sel => Sys2Proof.Machine.execPressClosed sel s
  | .pressSample sel arg => Sys2Proof.Machine.execPressSample sel arg s
  | .pressOpened sel => Sys2Proof.Machine.execPressOpened sel s
  | .headDecline sel arg => Sys2Proof.Machine.execHeadDecline sel arg s
  | .selectAssertion _ | .frameRefused _ _ | .fullReset _ | .closeTimerExpiry _ | .sampleTimerExpiry
      _ | .releaseTimerExpiry _ | .parkTimerExpiry _ | .loadLinkBlock _ _ | .preflightBlockRead |
      .stripeSendComplete => .next s

/-- The clock cycles of a frame in progress, first bit first (R168). -/
def State.shiftIn (s : State) (p : Port) (bits : List Bool) : State :=
  s.modifyPort p fun ps => bits.foldl PortState.clock ps

/-- The release of select that ends a frame on a port: the receiver judges it (R168, R170). -/
def State.judge (s : State) (p : Port) : Host.Outcome State Fault Refusal :=
  match (s.ports.get p).receiver with
  | none => .next (s.releaseSelect p)
  | some r =>
    match judgeFrame p r with
    | .error why => .next (s.refuseFrame p why)
    | .ok i => runFrame i s

/-- FRAME_REFUSED (R170): the clock edges of a frame, and the release of select that ends it. Bits
that pass every check are taken as the command they carry (log 16). -/
def execFrameRefused (p : Port) (bits : List Bool) (s : State) :
    Host.Outcome State Fault Refusal :=
  match s.openFrame p with
  | none => .next (s.releaseSelect p)
  | some s1 => (s1.shiftIn p bits).judge p

end Sys2Proof.Machine
end

