-- ==== Sys2Proof/Machine/Timebase.lean ====
section
/-! DEFINITION. The Line Timebase's tick of 1 ms (R125, section 5): the running timers count down, and
the ones that reach 0 expire. -/

namespace Sys2Proof.Machine

open Sys2Proof

/-- One tick of a head's timer. -/
def Head.count (d : Head) : Head :=
  { d with timer := d.timer.map fun t => { t with left := t.left - 1 } }

/-- The expiry of a head's timer of a kind, by the rule of that kind (R138, R139, R142). -/
def State.expire (s : State) (h : HeadId) : TimerKind → State
  | .close => s.pressTimeout h .close
  | .sample => s.pressTimeout h .sample
  | .release => s.releaseTimeout h
  | .park => s.parkTimeout h

/-- A timer that has reached 0 expires. -/
def State.expireIfDue (s : State) (h : HeadId) : State :=
  match (s.heads.get h).timer with
  | some t => if t.left = 0 then s.expire h t.kind else s
  | none => s

/-- The tick: both heads' timers count down, then head 0's expires and then head 1's, where they are
due (log 2). -/
def State.tick (s : State) : State :=
  (({ s with heads := s.heads.map Head.count }).expireIfDue .h0).expireIfDue .h1

end Sys2Proof.Machine
end

