-- ==== Sys2Proof/WellFormed.lean ====
section
/-! DEFINITION. When a command is well formed: a frame command names a port whose role accepts it
(R172), and a FRAME_REFUSED carries a frame that R170 refuses. -/

namespace Sys2Proof

/-- A frame command's port accepts it (R172). -/
def Instr.roleOk (i : Instr) : Bool :=
  match i.request with
  | some r => r.cmd.acceptedOn r.port
  | none => true

/-- The receiver after the clock edges of a frame (R168). -/
def receive (bits : List Bool) : Receiver := bits.foldl Receiver.edge Receiver.start

/-- A frame that R170 refuses. -/
def frameIsRefused (p : Port) (bits : List Bool) : Bool :=
  match judgeFrame p (receive bits) with
  | .error _ => true
  | .ok _ => false

/-- Well-formed commands. -/
def Instr.wellFormed (i : Instr) : Bool :=
  i.roleOk &&
    match i with
    | .frameRefused p bits => frameIsRefused p bits
    | _ => true

end Sys2Proof
end

