-- ==== Sys2Proof/Safety.lean ====
section
/-! DEFINITION. What the statements speak of: a frame in progress, a step that goes on, and the
conditions that every step keeps. -/

namespace Sys2Proof.Machine

open Sys2Proof

/-- A frame is in progress on the port: its receiver is receiving (R168). -/
abbrev State.inFrame (s : State) (p : Port) : Prop := (s.ports.get p).receiver.isSome = true

/-- A safe state: the part goes on from it. -/
def Safe (s : State) : Prop := ∃ t, step s = .next t

/-- The store keeps its canonical form (log 4). -/
abbrev StoreCanonical (s : State) : Prop := Memory.wf s.store

/-- "ASSIGNMENT_0 and ASSIGNMENT_1 are pending exactly while their head's mailbox slot is
non-empty" (R176). -/
abbrev MailboxesShown (s : State) : Prop :=
  ((s.notice (.assignment .h0)).pending = s.heads.h0.mailbox.isSome) ∧
    ((s.notice (.assignment .h1)).pending = s.heads.h1.mailbox.isSome)

/-- A pass class column's cross-constraints (R148). -/
abbrev PassRow.windowed (v : PassRow) : Prop :=
  v.defSetpoint ≤ v.ceiling ∧ v.tb + 10 ≤ v.scorchTemp

/-- "Every row holds Dmin ≤ Dmax at all times" (R95) and "Every column holds default setpoint ≤
ceiling and scorch temperature ≥ Tb + 10 at all times" (R148). -/
abbrev WindowsHeld (s : State) : Prop :=
  (∀ r : FabricIx, (s.fabric.get r).dmin ≤ (s.fabric.get r).dmax) ∧
    s.pass.dry.windowed ∧ s.pass.cure.windowed

/-- A head's setpoint lies in the range of its class (R151), and the cycle of a CLOSED head is in the
head's class (R135, R152). -/
abbrev State.setpointHeld (s : State) (h : HeadId) : Prop :=
  (s.present h = true →
    (s.pass.get (s.heads.get h).cls).defSetpoint ≤ (s.thermal.get h).setpoint ∧
      (s.thermal.get h).setpoint ≤ (s.pass.get (s.heads.get h).cls).ceiling) ∧
    ((s.heads.get h).state = .closed → (s.thermal.get h).cycle.cls = (s.heads.get h).cls)

/-- "Every present head's setpoint lies between the default setpoint and the ceiling of the pass
class the head is in" (R151), with what keeps it so. -/
abbrev SetpointsHeld (s : State) : Prop :=
  WindowsHeld s ∧ s.setpointHeld .h0 ∧ s.setpointHeld .h1

/-- The commands that may change the store's contents or their meaning (R57): a block of a load run,
and a power-on. -/
def mayWriteStore : Instr → Bool
  | .loadLinkBlock _ _ => true
  | .fullReset .powerOn => true
  | _ => false

/-- A full reset (R181). -/
def isFullReset : Instr → Bool
  | .fullReset _ => true
  | _ => false

/-! ## Terms of the statements about matching (R19, R21) -/

/-- The line qualifies for a scan on the automatic path: the four conditions of R19. -/
def Qualifies (s : State) (arg : Arg) (i : LineIx) : Prop :=
  (s.lines.get i).state = .open_ ∧ (s.lines.get i).held = false ∧
    ((s.lines.get i).style = arg.extractLsb' 22 10 ∧ (s.lines.get i).size = arg.extractLsb' 18 4 ∧
      (s.lines.get i).colour = arg.extractLsb' 11 7) ∧
    (s.artworks.get (s.lines.get i).artwork).state = .ready

/-- The line is RUSH. -/
def IsRush (s : State) (i : LineIx) : Prop := (s.lines.get i).priority = .rush

/-- The line is the one that the match policy chooses for a scan (R19). -/
def Chosen (s : State) (arg : Arg) (i : LineIx) : Prop :=
  ∃ pre post, s.age = pre ++ i :: post ∧ Qualifies s arg i ∧
    match s.params.matchPolicy with
    | .ageOnly => ∀ j ∈ pre, ¬ Qualifies s arg j
    | .rushFirst =>
      (IsRush s i ∧ ∀ j ∈ pre, ¬ (Qualifies s arg j ∧ IsRush s j)) ∨
        ((∀ j ∈ s.age, ¬ (Qualifies s arg j ∧ IsRush s j)) ∧ ∀ j ∈ pre, ¬ Qualifies s arg j)

/-- The dose of R98. -/
def doseOf (row : FabricRow) (shade : Shade) (lw : Nat) : Nat :=
  match shade, lw with
  | .dark, _ => clamp row.dmin row.dmax (row.db + (lw * row.kw) / 256)
  | .light, 0 => 0
  | .light, _ => clamp row.dmin row.dmax ((lw * row.kw) / 256)

/-- The dose of a garment bound to line `i` now. -/
def boundDose (s : State) (i : LineIx) : Nat :=
  doseOf (s.fabric.get (s.lines.get i).fabric) (s.lines.get i).shade
    (s.artworks.get (s.lines.get i).artwork).lw

/-- The line's bind serial after a bind event (R13). -/
def boundSerial (l : OrderLine) : Nat := if l.serial = 255 then 1 else l.serial + 1

/-- The ticket of R21 and R23. -/
def boundTicket (s : State) (i : LineIx) : Ticket :=
  let l := s.lines.get i
  { line := i, serial := boundSerial l, artwork := l.artwork, fabric := l.fabric, shade := l.shade,
    priority := l.priority, lc := (s.artworks.get l.artwork).lc,
    lw := (s.artworks.get l.artwork).lw, dose := boundDose s i, applied := 0, sprays := 0,
    dryTarget := none, dryCredit := 0, cureTarget := none, cureCredit := 0, presses := 0,
    scorches := 0, headRetries := 0, stage := .bound, disposition := .good, reason := none }

/-- The state that a LOAD_SCAN binding platen `p` to line `i` leaves (R21): the line's bound and bind
serial raised and its state derived again, the ticket on the platen, the artwork's ticket count
raised. -/
def afterBind (s : State) (p : PlatenIx) (i : LineIx) : State :=
  let l := s.lines.get i
  { s with
    lines := s.lines.set i
      { l with bound := l.bound + 1, serial := boundSerial l,
               state := if l.bound + 1 + l.finished = l.wanted then .full else .open_ }
    platens := s.platens.set p { s.platens.get p with ticket := some (boundTicket s i) }
    artworks := s.artworks.modify l.artwork fun e => { e with tickets := e.tickets + 1 } }

/-- The platen can be scanned (R18): below the platen count, without a ticket, in LOAD_ZONE or
TRANSIT. -/
def Scannable (s : State) (p : PlatenIx) : Prop :=
  p.val < s.params.platenCount ∧ s.ticket p = none ∧
    (s.location p = .loadZone ∨ s.location p = .transit)

/-! ## Terms of the statements about the stripe link -/

/-- IDLE goes out where a send has ended and the link is left free (R183). -/
def idleAgain (u : State) : State :=
  if u.link.sending = none then { u with stripeOut := u.stripeOut ++ [.idle] } else u

/-- The bed's run `r` ended with outcome CUT: its record removed, STRIPE_END raised, and the link handed
again (R117, R118). -/
def cutRecord (u : State) (bed : Bed) (r : StripeRun) : State :=
  (({ u with beds := u.beds.set bed { u.beds.get bed with run := none } }).raise (.stripeEnd bed)
    [(9, r.sent), (1, 0), (2, 2), (4, r.segment.val)]).handLink

/-- The bed's run `r` cut (R118): where a block of the bed is being sent, `n` of its words had gone out, a
CUT ends it, and IDLE follows where the link stays free. -/
def cutAt (s : State) (bed : Bed) (r : StripeRun) (n : Nat) : State :=
  match s.link.sending with
  | some k =>
    if k.bed = bed then
      idleAgain (cutRecord
        { s with
          link := { s.link with sending := none }
          stripeOut := s.stripeOut ++ [.data ((s.storeBlock k.store).take n), .cut] } bed r)
    else cutRecord s bed r
  | none => cutRecord s bed r

/-! ## Terms of the statements about configuration: the table of R174 -/

/-- A row of R174's table: the selector (table in bits 6..4, number in bits 3..0), the parameter, its
lowest and highest value, and the value it has; an enumerated value by its position. -/
structure ConfigRow (α : Type) where
  sel   : Selector
  param : α
  low   : Nat
  high  : Nat
  value : Nat

/-- Table 0, LINE. -/
def lineTable (v : Params) : List (ConfigRow LineParam) :=
  [⟨0x00, .matchPolicy, 0, 1, match v.matchPolicy with | .rushFirst => 0 | .ageOnly => 1⟩,
   ⟨0x01, .platenCount, 1, 48, v.platenCount⟩,
   ⟨0x02, .minTopup, 1, 200, v.minTopup⟩,
   ⟨0x03, .resprayLimit, 0, 3, v.resprayLimit⟩,
   ⟨0x04, .repressLimit, 0, 7, v.repressLimit⟩]

/-- Table 1, FABRIC, one row. -/
def fabricTable (v : FabricRow) : List (ConfigRow FabricParam) :=
  [⟨0x10, .db, 0, 1000, v.db⟩,
   ⟨0x11, .kw, 0, 255, v.kw⟩,
   ⟨0x12, .dmin, 0, 1000, v.dmin⟩,
   ⟨0x13, .dmax, 0, 1000, v.dmax⟩,
   ⟨0x14, .underTol, 0, 255, v.underTol⟩,
   ⟨0x15, .overTol, 0, 255, v.overTol⟩,
   ⟨0x16, .kdry, 0, 255, v.kdry⟩,
   ⟨0x17, .cbase, 0, 60000, v.cbase⟩,
   ⟨0x18, .wet, 0, 255, v.wet⟩]

/-- Table 2, PRESS. -/
def pressTable (v : PressParams) : List (ConfigRow PressParam) :=
  [⟨0x20, .headsPresent, 1, 2, v.headsPresent⟩,
   ⟨0x21, .mode, 0, 1, match v.mode with | .rotate => 0 | .fixed => 1⟩,
   ⟨0x22, .closeTimeout, 0, 255, v.closeTimeout⟩,
   ⟨0x23, .changeover, 0, 255, v.changeover⟩,
   ⟨0x24, .sampleTimeout, 1, 255, v.sampleTimeout⟩,
   ⟨0x25, .releaseTimeout, 1, 255, v.releaseTimeout⟩,
   ⟨0x26, .retryLimit, 0, 15, v.retryLimit⟩,
   ⟨0x27, .isolation, 0, 1, if v.isolation then 1 else 0⟩,
   ⟨0x28, .parkDelay, 0, 60, v.parkDelay⟩,
   ⟨0x29, .parkPolicy, 0, 1, match v.parkPolicy with | .last => 0 | .default_ => 1⟩,
   ⟨0x2A, .parkClass, 0, 1, match v.parkClass with | .dry => 0 | .cure => 1⟩]

/-- Table 3, PASS, one column. -/
def passTable (v : PassRow) : List (ConfigRow PassParam) :=
  [⟨0x30, .tb, 0, 245, v.tb⟩,
   ⟨0x31, .w0, 1, 64, v.w0⟩,
   ⟨0x32, .goal, 0, 255, v.goal⟩,
   ⟨0x33, .band, 0, 31, v.band⟩,
   ⟨0x34, .defSetpoint, 0, 255, v.defSetpoint⟩,
   ⟨0x35, .ceiling, 0, 255, v.ceiling⟩,
   ⟨0x36, .baseStep, 1, 8, v.baseStep⟩,
   ⟨0x37, .multiStep, 0, 1, if v.multiStep then 1 else 0⟩,
   ⟨0x38, .scorchTemp, 10, 255, v.scorchTemp⟩,
   ⟨0x39, .scorchLimit, 1, 15, v.scorchLimit⟩,
   ⟨0x3A, .maxSamples, 1, 1023, v.maxSamples⟩]

/-! ## Terms of the statements about the press -/

/-- A head's mailbox slot emptied, its notice no longer pending (R134), and that notice's detail 0
(log 26). -/
def emptySlot (s : State) (h : HeadId) : State :=
  (s.modifyHead h fun d => { d with mailbox := none }).setNotice (.assignment h) ⟨false, 0⟩

/-- A platen that leaves a head goes by its outcome: to TRANSIT, or to the head of its origin list
(R137). -/
def goesBy (s : State) (o : PressOutcome) (l : RackList) (p : PlatenIx) : State :=
  match o with
  | .transit => s.setLocation p .transit
  | .return_ =>
    ({ s with lists := s.lists.set l (p :: s.lists.get l) }).setLocation p (.rack l)

/-- A head that has let its platen go (R125, R137): DECLINING with decline pending cleared where it was
set; FREE otherwise, the park timer started where no RELEASE is pending (R142). -/
def freed (s : State) (h : HeadId) : State :=
  s.modifyHead h fun d =>
    { d with
      state := if d.declinePending then .declining else .free
      declinePending := false
      platen := none
      origin := .cureRush
      outcome := .transit
      closeOnTaken := false
      timer :=
        if d.declinePending ∨ d.mailbox = some .release then none
        else some ⟨.park, s.press.parkDelay * 1000⟩ }

/-- The credit increment of R155. -/
def incrementOf (row : PassRow) (t : Nat) : Nat :=
  if t < row.tb then 0
  else
    let d := min (t - row.tb) 59
    (row.w0 * 2 ^ (d / 10)) * (10 + d % 10) / 10

/-- A ticket with its credit of a class replaced. -/
def withCredit (k : Ticket) (c : PassClass) (n : Nat) : Ticket :=
  match c with
  | .dry => { k with dryCredit := n }
  | .cure => { k with cureCredit := n }

/-- The stage from which, and to which, a completed cycle of a class takes a garment (R157). -/
def cycleFrom : PassClass → Stage
  | .dry => .pretreated
  | .cure => .printed
def cycleTo : PassClass → Stage
  | .dry => .primed
  | .cure => .cured

/-- The spoil reason of a short cycle of a class, and its code (R158). -/
def shortReason : PassClass → SpoilReason
  | .dry => .underdried
  | .cure => .undercured
def shortCode : PassClass → Nat
  | .dry => 2
  | .cure => 5

/-- A head is eligible for a grant (R131). -/
def Eligible (s : State) (h : HeadId) : Prop :=
  s.present h = true ∧ ((s.heads.get h).state = .free ∨ (s.heads.get h).state = .parked) ∧
    (s.heads.get h).mailbox ≠ some .release

/-- A list's turn in ROTATE mode, counted from the member after each pointer (R129): the members of
level 1 are CURE_RUSH, CURE_STD and the DRY group, those of level 2 DRY_RUSH and DRY_STD. -/
def turn (s : State) (l : RackList) : Nat :=
  let m := match l with | .cureRush => 0 | .cureStd => 1 | .dryRush | .dryStd => 2
  let d := match l with
    | .cureRush | .cureStd => 0
    | .dryRush => (1 - level2Code s.level2) % 2
    | .dryStd => (2 - level2Code s.level2) % 2
  2 * ((m + 2 - level1Code s.level1) % 3) + d

/-- The head that R131 chooses for the class of a list: among the eligible heads one of that class,
and head 0 between equals. -/
def Picked (s : State) (c : PassClass) (h : HeadId) : Prop :=
  Eligible s h ∧
    (((s.heads.get h).cls = c ∧
        ∀ x, Eligible s x → (s.heads.get x).cls = c → headCode h ≤ headCode x) ∨
      ((∀ x, Eligible s x → (s.heads.get x).cls ≠ c) ∧ ∀ x, Eligible s x → headCode h ≤ headCode x))

/-- The state after a grant of platen `p`, at the head of list `l` before `rest`, to head `h`
(R132). -/
def afterGrant (s : State) (l : RackList) (p : PlatenIx) (rest : List PlatenIx) (h : HeadId) :
    State :=
  let d := s.heads.get h
  let c : PassClass := match l with | .cureRush | .cureStd => .cure | .dryRush | .dryStd => .dry
  let sp := if d.cls = c then (s.thermal.get h).setpoint else (s.pass.get c).defSetpoint
  let seconds := s.press.closeTimeout + if d.cls = c then 0 else s.press.changeover
  ({ s with
     lists := s.lists.set l rest
     level1 := match s.press.mode, l with
       | .fixed, _ => s.level1
       | .rotate, .cureRush => .cureRush
       | .rotate, .cureStd => .cureStd
       | .rotate, _ => .dryGroup
     level2 := match s.press.mode, l with
       | .rotate, .dryRush => .dryRush
       | .rotate, .dryStd => .dryStd
       | _, _ => s.level2
     platens := s.platens.set p { s.platens.get p with location := .head h }
     heads := s.heads.set h
       { d with state := .assigned, cls := c, platen := some p, origin := l, late := false,
                closeOnTaken := false,
                timer := if s.press.closeTimeout = 0 then none
                         else some ⟨.close, seconds * 1000⟩ }
     thermal := s.thermal.set h { s.thermal.get h with setpoint := sp } }).post h
    (.closeOn p c sp (decide (d.cls ≠ c)))

end Sys2Proof.Machine
end

