-- ==== Sys2Proof/Certificates/Slice0/Obligations.lean ====
section
/-! DEFINITION. The statements about the part, each citing the rule or section of spec/ that it
formalises. -/

open Sys2Proof Sys2Proof.Machine

/-! ## The machine -/

/-- A step runs the command at the front of the queue. -/
def Obligations.StepRunsFrontCommand : Prop :=
  ∀ (c : Instr) (rest : List Instr) (s : State),
    step { s with pending := c :: rest } = exec c { s with pending := rest }

/-- THE MODEL'S CHOICE (log 2): with no command waiting a step is one tick of 1 ms. While no running timer
reaches 0 it counts them down and changes nothing else. A timer that reaches 0 expires within the tick, as
its expiry row would have it: head 0's first, and then head 1's where it is still due. -/
def Obligations.IdleStepCountsTimers : Prop :=
  ∀ s : State, s.pending = [] →
    let counted : State := { s with
      heads := s.heads.map fun d =>
        { d with timer := d.timer.map fun t => ⟨t.kind, t.left - 1⟩ } }
    ((∀ h t, (s.heads.get h).timer = some t → 1 < t.left) → step s = .next counted) ∧
    let expiry (h : HeadId) (k : TimerKind) : Instr := match k with
      | .close => .closeTimerExpiry h
      | .sample => .sampleTimerExpiry h
      | .release => .releaseTimerExpiry h
      | .park => .parkTimerExpiry h
    let expires (h : HeadId) (u v : State) : Prop :=
      (∀ k, (u.heads.get h).timer = some ⟨k, 0⟩ → exec (expiry h k) u = .next v) ∧
      ((∀ k, (u.heads.get h).timer ≠ some ⟨k, 0⟩) → v = u)
    ∃ u v, expires .h0 counted u ∧ expires .h1 u v ∧ step s = .next v

/-- No command stops the part (log 1): refusals and access faults are answers and records. -/
def Obligations.EveryCommandCompletes : Prop :=
  ∀ (i : Instr) (s : State), ∃ t, exec i s = .next t

/-! ## Frames -/

/-- Decode and encode agree: the frame of every command on a port that accepts it passes checks 2 to 4
of R170 and carries that command, every selector, argument and S flag intact. -/
def Obligations.DecodeOfEncode : Prop :=
  ∀ (i : Instr) (r : Request), i.request = some r → i.roleOk = true →
    decodeFrame r.port r.frame = .ok i

/-- Fifty-six clock edges shift a frame into the receiver unchanged, bit 55 first (R168, section 11.1).
The check code of 48 zero bits is 0xAF, and a frame's check field is good exactly when the register fed
with all 56 of its bits ends at 0 (section 10.2.1). -/
def Obligations.FrameBitsAndCheckCode : Prop :=
  (∀ f : BitVec 56, receive (frameBits f) = ⟨56, f⟩) ∧
  (checkCode 0 = 0xAF#8) ∧
    ∀ f : BitVec 56,
      frameCheck f = checkCode (frameBody f) ↔ (frameBits f).foldl crcStep 0xFF#8 = 0

/-- R170: a frame is checked for its length, its check field, its command code and its role in that
order, and the first check that fails refuses it; a refused frame changes the pending reply, the receiver
and what the port has driven out, and nothing else. -/
def Obligations.RefusedFrameOnlyAnswers : Prop :=
  (∀ (p : Port) (r : Receiver),
    (r.edges ≠ 56 → judgeFrame p r = .error .length) ∧
    (r.edges = 56 → frameCheck r.bits ≠ checkCode (frameBody r.bits) →
      judgeFrame p r = .error .check) ∧
    (r.edges = 56 → frameCheck r.bits = checkCode (frameBody r.bits) →
      (∀ c : Cmd, c.code ≠ frameCode r.bits) → judgeFrame p r = .error .unknown) ∧
    (∀ c : Cmd, r.edges = 56 → frameCheck r.bits = checkCode (frameBody r.bits) →
      c.code = frameCode r.bits → c.acceptedOn p = false → judgeFrame p r = .error .role) ∧
    (∀ c : Cmd, r.edges = 56 → frameCheck r.bits = checkCode (frameBody r.bits) →
      c.code = frameCode r.bits → c.acceptedOn p = true →
      judgeFrame p r =
        .ok (Instr.ofFields c p (frameS r.bits) (frameSel r.bits) (frameArg r.bits)))) ∧
  (∀ (p : Port) (bits : List Bool) (s : State) (why : RefusalReason),
    (s.ports.get p).receiver = some ⟨0, 0⟩ →
    judgeFrame p (receive bits) = .error why →
    ∃ out : List Bool,
      exec (.frameRefused p bits) s =
        .next (s.modifyPort p fun ps =>
          { ps with selectAsserted := false, receiver := none, driven := out,
                    reply := ⟨true, why, .none, 0⟩ }))

/-- A frame of 56 edges that passes the checks is taken: the command it carries is carried out on the
state in which those bits have been received and as many reply bits driven (R168); that FRAME_REFUSED with
such bits takes them is the model's choice (log 16). That a command frame or a FRAME_REFUSED on an idle
receiver with select released begins with its own select assertion, and that one whose select was found
asserted by a full reset is the release that takes nothing and leaves the pending reply, is the model's
choice of what these rows stand for (log 3). A command sent on a port whose role does not accept it is refused ROLE and
reaches no block. -/
def Obligations.FramesAreTakenOrRefused : Prop :=
  (∀ (p : Port) (bits : List Bool) (s : State) (i : Instr),
     (s.ports.get p).receiver = some ⟨0, 0⟩ →
     judgeFrame p (receive bits) = .ok i →
     exec (.frameRefused p bits) s =
       exec i (s.modifyPort p fun ps =>
         { ps with
           receiver := some (receive bits)
           driven := ps.driven ++
             (List.range' ps.driven.length bits.length).map (replyBit ps.sent) })) ∧
  (∀ (i : Instr) (r : Request) (s : State), i.request = some r →
     (s.ports.get r.port).receiver = none →
     ((s.ports.get r.port).selectAsserted = false → exec i s = exec i (s.assertSelect r.port)) ∧
     ((s.ports.get r.port).selectAsserted = true →
       exec i s = .next (s.modifyPort r.port fun ps => { ps with selectAsserted := false }))) ∧
  (∀ (p : Port) (bits : List Bool) (s : State), (s.ports.get p).receiver = none →
     ((s.ports.get p).selectAsserted = false →
       exec (.frameRefused p bits) s = exec (.frameRefused p bits) (s.assertSelect p) ∧
       ∀ why, judgeFrame p (receive bits) = .error why →
         let latched := replyFrame (s.ports.get p).reply (s.attention p) s.commissioningOpen
         exec (.frameRefused p bits) s =
           .next (s.modifyPort p fun ps =>
             { ps with selectAsserted := false, receiver := none, sent := some latched,
                       driven := (List.range bits.length).map (replyBit (some latched)),
                       reply := ⟨true, why, .none, 0⟩ })) ∧
     ((s.ports.get p).selectAsserted = true →
       exec (.frameRefused p bits) s =
         .next (s.modifyPort p fun ps => { ps with selectAsserted := false }))) ∧
  (∀ (i : Instr) (r : Request) (s : State), i.request = some r → s.inFrame r.port →
     i.roleOk = false →
     exec i s =
       .next (s.modifyPort r.port fun ps =>
         { ps with selectAsserted := false, receiver := none, driven := replyBits ps.sent,
                   reply := ⟨true, .role, .none, 0⟩ }))

/-- A select assertion sets the edge count to 0, discards the bits held, and latches the pending reply
for shifting out, its ATN bit showing whether an enabled kind is pending and its CO bit whether
commissioning is OPEN. The latched bits are driven out one at each clock cycle, bit 55 first, and 0 after
the 56th: over the frame of a NOP all of them, over a refused frame as many as it has edges. The fields of
a reply stand where section 11.2 places them, and its check field is the code of its first 48 bits. The
record of the bits driven (log 3), and that a mask bit of 1 means enabled (log 25), are the model's. -/
def Obligations.SelectAssertionLatchesTheReply : Prop :=
  (∀ (p : Port) (s : State), ∃ atn : Bool,
     (atn = true ↔ ∃ k : Fin 8, ((s.ports.get p).notices.get k).pending = true ∧
       (s.ports.get p).mask.getLsbD k.val = true) ∧
     exec (.selectAssertion p) s =
       .next (s.modifyPort p fun ps =>
         { ps with selectAsserted := true, receiver := some ⟨0, 0⟩,
                   sent := some (replyFrame ps.reply atn s.commissioningOpen), driven := [] })) ∧
  (∀ (f : BitVec 56) (k : Nat),
     (k < 56 → replyBit (some f) k = f.getLsbD (55 - k)) ∧
     (56 ≤ k → replyBit (some f) k = false)) ∧
  (∀ (p : Port) (s : State), s.inFrame p →
     ∃ t, exec (.nop p) s = .next t ∧
       (t.ports.get p).driven = (List.range 56).map (replyBit (s.ports.get p).sent)) ∧
  (∀ (p : Port) (bits : List Bool) (s : State) (why : RefusalReason),
     (s.ports.get p).receiver = some ⟨0, 0⟩ → (s.ports.get p).driven = [] →
     judgeFrame p (receive bits) = .error why →
     ∃ t, exec (.frameRefused p bits) s = .next t ∧
       (t.ports.get p).driven = (List.range bits.length).map (replyBit (s.ports.get p).sent)) ∧
  (∀ (r : Reply) (atn co : Bool),
     (replyFrame r atn co).getLsbD 55 = r.fr ∧
     (replyFrame r atn co).extractLsb' 52 3 = refusalCode r.reason ∧
     (replyFrame r atn co).getLsbD 51 = atn ∧
     (replyFrame r atn co).getLsbD 50 = co ∧
     (replyFrame r atn co).extractLsb' 48 2 = 0 ∧
     (replyFrame r atn co).extractLsb' 40 8 = r.result.code ∧
     (replyFrame r atn co).extractLsb' 8 32 = r.data ∧
     frameCheck (replyFrame r atn co) = checkCode (frameBody (replyFrame r atn co)))

/-- Every taken command but EXTEND leaves its port's extension word invalid and its port's receiver
idle, and leaves an answer with FR clear pending. -/
def Obligations.ExtensionWordIsUsedOnce : Prop :=
  ∀ (i : Instr) (r : Request) (s : State), i.request = some r → s.inFrame r.port →
    i.roleOk = true → r.cmd ≠ .extend →
    ∃ t, exec i s = .next t ∧ (t.ports.get r.port).ext = none ∧
      (t.ports.get r.port).receiver = none ∧ (t.ports.get r.port).reply.fr = false ∧
      (t.ports.get r.port).reply.reason = .none

/-! ## Commands of every port -/

/-- R179: READ_ID is answered OK on every port with the part code 0x48, the revision 1 and the number of
the port on which it was taken, and changes no state. -/
def Obligations.ReadIdAnswers : Prop :=
  ∀ (p : Port) (s : State), s.inFrame p →
    exec (.readId p) s =
      .next (s.finish p
        ⟨.ok, match p with
          | .order => 0x4801#32 | .pretreat => 0x14801#32 | .print => 0x24801#32
          | .press => 0x34801#32⟩ none)

/-- NOP is answered NONE with data 0, and EXTEND makes the extension word valid with its argument.
NOTICE_MASK reads the port's mask, or writes it from bits 7..0 of the argument, bits beyond the port's
kinds ignored; the answer carries the mask in force. That a bit of 1 means enabled is the model's
(log 25). -/
def Obligations.NopExtendAndNoticeMask : Prop :=
  (∀ (p : Port) (s : State), s.inFrame p →
     exec (.nop p) s = .next (s.finish p ⟨.none, 0⟩ none) ∧
     ∀ arg : Arg, exec (.extend p arg) s = .next (s.finish p ⟨.ok, arg⟩ (some arg))) ∧
  (∀ (p : Port) (s : State), s.inFrame p →
     exec (.noticeMaskRead p) s =
       .next (s.finish p ⟨.ok, (s.ports.get p).mask.setWidth 32⟩ none) ∧
     ∀ arg : Arg,
       let m : BitVec 8 := arg.extractLsb' 0 8 &&&
         (match p with | .order => 0xFF#8 | .pretreat => 0x03#8 | .print => 0x1F#8 | .press => 0x07#8)
       exec (.noticeMaskWrite p arg) s =
         .next ((s.modifyPort p fun ps => { ps with mask := m }).finish p ⟨.ok, m.setWidth 32⟩ none))

/-- FETCH_NOTICE (R178) returns and clears the highest-priority kind pending and enabled; an ASSIGNMENT
kind stays while its mailbox slot is non-empty; with no such kind it is answered NONE; in a refused
frame it fetches nothing; and the attention condition follows the set. That a mask bit of 1 means enabled
is the model's (log 25). -/
def Obligations.FetchNotice : Prop :=
  ∀ (p : Port) (s : State),
    (s.attention p = true ↔ ∃ k : Fin 8, ((s.ports.get p).notices.get k).pending = true ∧
      (s.ports.get p).mask.getLsbD k.val = true) ∧
    (∀ (bits : List Bool) (why : RefusalReason),
      (s.ports.get p).receiver = some ⟨0, 0⟩ → judgeFrame p (receive bits) = .error why →
      ∃ t, exec (.frameRefused p bits) s = .next t ∧ ∀ q, (t.ports.get q).notices =
        (s.ports.get q).notices) ∧
    (s.inFrame p →
      ((∀ k : Fin 8, ((s.ports.get p).notices.get k).pending = true →
          (s.ports.get p).mask.getLsbD k.val = false) →
        exec (.fetchNotice p) s = .next (s.finish p ⟨.none, 0⟩ none)) ∧
      (∀ k : Fin 8, ((s.ports.get p).notices.get k).pending = true →
        (s.ports.get p).mask.getLsbD k.val = true →
        (∀ j : Fin 8, j < k → ((s.ports.get p).notices.get j).pending = true →
          (s.ports.get p).mask.getLsbD j.val = false) →
        let d := ((s.ports.get p).notices.get k).detail
        let a : Answer := ⟨.ok, BitVec.ofNat 4 k.val ++ d⟩
        ((p = .press ∧ ((k = 0 ∧ s.heads.h0.mailbox ≠ none) ∨ (k = 1 ∧ s.heads.h1.mailbox ≠ none)) →
            exec (.fetchNotice p) s = .next (s.finish p a none)) ∧
          (¬ (p = .press ∧
              ((k = 0 ∧ s.heads.h0.mailbox ≠ none) ∨ (k = 1 ∧ s.heads.h1.mailbox ≠ none))) →
            exec (.fetchNotice p) s =
              .next ((s.modifyPort p fun ps =>
                { ps with notices := ps.notices.set k ⟨false, 0⟩ }).finish p a none)))))

/-! ## Order book -/

/-- R5: the checks of POST_LINE in their order, each refusal with its code and data 0 and no other
effect than the consumed extension word. -/
def Obligations.PostLineRefusals : Prop :=
  ∀ (sel : Selector) (arg : Arg) (s : State), s.inFrame .order →
    let no : BitVec 3 := sel.extractLsb' 0 3
    let refusedWith (r : Result) : Prop :=
      exec (.postLine sel arg) s = .next (s.finish .order ⟨r, 0⟩ none)
    ((s.ports.get .order).ext = none → refusedWith .badState) ∧
    ∀ w : Word, (s.ports.get .order).ext = some w →
      (arg = 0 → refusedWith .notFound) ∧
      (arg ≠ 0 → (s.artworks.get (lineSpec w).artwork).state = .free → refusedWith .notFound) ∧
      (arg ≠ 0 → (s.artworks.get (lineSpec w).artwork).state ≠ .free →
        ((∃ i, (s.lines.get i).state ≠ .free ∧ (s.lines.get i).orderRef = arg ∧
            (s.lines.get i).lineNo = no) → refusedWith .duplicate) ∧
        ((∀ i, (s.lines.get i).state ≠ .free ∧
            ¬ ((s.lines.get i).orderRef = arg ∧ (s.lines.get i).lineNo = no)) →
          refusedWith .full))

/-- A POST_LINE that passes the checks fills the lowest FREE line, appends it to the age list and
raises its artwork's line count; a quantity of 0 is adopted as 1 with CLAMPED. -/
def Obligations.PostLineFillsTheLowestFreeLine : Prop :=
  ∀ (sel : Selector) (arg : Arg) (s : State) (w : Word) (i : LineIx), s.inFrame .order →
    (s.ports.get .order).ext = some w → arg ≠ 0 →
    (s.artworks.get (lineSpec w).artwork).state ≠ .free →
    (∀ j, ¬ ((s.lines.get j).state ≠ .free ∧ (s.lines.get j).orderRef = arg ∧
      (s.lines.get j).lineNo = sel.extractLsb' 0 3)) →
    (s.lines.get i).state = .free → (∀ j, j < i → (s.lines.get j).state ≠ .free) →
    let q := (sel.extractLsb' 3 4).toNat
    let wanted := if q = 0 then 1 else q
    exec (.postLine sel arg) s =
      .next ((({ s with
        lines := s.lines.set i
          { state := .open_, orderRef := arg, lineNo := sel.extractLsb' 0 3,
            style := w.extractLsb' 22 10, size := w.extractLsb' 18 4, colour := w.extractLsb' 11 7,
            fabric := (w.extractLsb' 8 3).toFin,
            shade := if w.getLsbD 7 then .dark else .light,
            priority := if w.getLsbD 6 then .rush else .standard,
            artwork := (w.extractLsb' 0 6).toFin, wanted := wanted, bound := 0, finished := 0,
            spoiled := 0, serial := 0, held := false }
        age := s.age ++ [i] }).modifyArtwork (w.extractLsb' 0 6).toFin fun e =>
          { e with lines := e.lines + 1 }).finish .order
        ⟨if q = 0 then .clamped else .ok, BitVec.ofNat 32 (i.val + 256 * wanted)⟩ none)

/-- AMEND_LINE clamps the quantity into max(bound + finished, 1)..15, derives the line's state again,
and raises LINE_DONE where the line enters DONE; on a FREE line it is answered NOT_FOUND and on a
CANCELLED one BAD_STATE. HOLD_LINE writes the held flag of a line that is not FREE. RETIRE_LINE returns
a DONE or CANCELLED line with bound 0 to FREE, takes it out of the age list and lowers its artwork's
line count, and is refused IN_USE while a CANCELLED line has bound above 0 and BAD_STATE in FREE, OPEN
and FULL. -/
def Obligations.AmendHoldAndRetireLine : Prop :=
  (∀ (arg : Arg) (s : State), s.inFrame .order →
     let i : LineIx := (arg.extractLsb' 0 8).toFin
     let l := s.lines.get i
     let q := (arg.extractLsb' 8 8).toNat
     (l.state = .free → exec (.amendLine arg) s = .next (s.finish .order ⟨.notFound, 0⟩ none)) ∧
     (l.state = .cancelled → exec (.amendLine arg) s = .next (s.finish .order ⟨.badState, 0⟩ none)) ∧
     (l.state ≠ .free → l.state ≠ .cancelled → l.bound + l.finished ≤ 15 →
       let w := clamp (max (l.bound + l.finished) 1) 15 q
       let st : LineState :=
         if l.bound + l.finished < w then .open_ else if 0 < l.bound then .full else .done
       let u : State := { s with lines := s.lines.set i { l with wanted := w, state := st } }
       let v : State :=
         if st = .done ∧ l.state ≠ .done then
           u.raise .lineDone [(8, i.val), (3, l.lineNo.toNat), (1, 0), (4, l.finished)]
         else u
       exec (.amendLine arg) s =
         .next (v.finish .order ⟨if w = q then .ok else .clamped, BitVec.ofNat 32 w⟩ none))) ∧
  (∀ (arg : Arg) (s : State), s.inFrame .order →
     let i : LineIx := (arg.extractLsb' 0 8).toFin
     let l := s.lines.get i
     (l.state = .free → exec (.holdLine arg) s = .next (s.finish .order ⟨.notFound, 0⟩ none)) ∧
     (l.state ≠ .free →
       exec (.holdLine arg) s =
         .next (({ s with lines := s.lines.set i { l with held := arg.getLsbD 8 } }).finish .order
           ⟨.ok, 0⟩ none)) ∧
     (l.state = .done ∨ l.state = .cancelled → l.bound = 0 →
       exec (.retireLine arg) s =
         .next ((({ s with lines := s.lines.set i OrderLine.free, age := s.age.erase i }).modifyArtwork
           l.artwork fun e => { e with lines := e.lines - 1 }).finish .order ⟨.ok, 0⟩ none)) ∧
     (l.state = .cancelled → l.bound ≠ 0 →
       exec (.retireLine arg) s = .next (s.finish .order ⟨.inUse, 0⟩ none)) ∧
     (l.state = .free ∨ l.state = .open_ ∨ l.state = .full →
       exec (.retireLine arg) s = .next (s.finish .order ⟨.badState, 0⟩ none)))

/-- CANCEL_LINE on an OPEN or FULL line makes it CANCELLED, every other value of it kept, and makes
every ticket below the platen count that names it VOID, with everything else of those tickets kept and
every other ticket as it was; the age list, the artworks and the other lines stand. Then each of those
platens has the effect of its location: none in LOAD_ZONE and TRANSIT, VOIDED at the pretreat and print
stations, out of its list at the rack, and at a head by the head's state (R29, R144); the Arbiter settles
where any ticket was voided. That the platens are taken in rising order, and that the Arbiter settles once
after them (log 9), and that the notice of a slot left empty has its detail at 0 (log 26), is the model's
choice. On a line in another state it is answered BAD_STATE and changes
nothing. -/
def Obligations.CancelLine : Prop :=
  (∀ (arg : Arg) (s : State), s.inFrame .order →
    let i : LineIx := (arg.extractLsb' 0 8).toFin
    let l := s.lines.get i
    (¬ (l.state = .open_ ∨ l.state = .full) →
      exec (.cancelLine arg) s = .next (s.finish .order ⟨.badState, 0⟩ none)) ∧
    (l.state = .open_ ∨ l.state = .full →
      let named : PlatenIx → Bool := fun p =>
        decide (l.bound ≠ 0 ∧ p.val < s.params.platenCount ∧ (s.ticket p).map Ticket.line = some i)
      let ps := (List.finRange 48).filter named
      let marked : State := { s with
        lines := s.lines.set i { l with state := .cancelled }
        platens := Table.tabulate fun p =>
          if named p then
            { s.platens.get p with
              ticket := (s.ticket p).map fun k => { k with disposition := .void } }
          else s.platens.get p }
      exec (.cancelLine arg) s =
        .next ((if ps = [] then marked else (ps.foldl (State.voidEffect i) marked).settle).finish .order
          ⟨.ok, BitVec.ofNat 32 ps.length⟩ none) ∧
      ∃ t, exec (.cancelLine arg) s = .next t ∧
        (t.ports.get .order).reply = ⟨false, .none, .ok, BitVec.ofNat 32 ps.length⟩ ∧
        t.lines = s.lines.set i { l with state := .cancelled } ∧ t.age = s.age ∧
        t.artworks = s.artworks ∧ t.params = s.params ∧ t.store = s.store ∧ t.loadRun = s.loadRun ∧
        t.engine = s.engine ∧ t.beds = s.beds ∧ t.link = s.link ∧ t.pass = s.pass ∧
        t.fabric = s.fabric ∧ t.press = s.press ∧ t.faults = s.faults ∧
        t.pretreatQueue = s.pretreatQueue ∧ t.printQueue = s.printQueue ∧ t.slot = s.slot ∧
        ∀ p : PlatenIx, t.ticket p =
          if named p then (s.ticket p).map fun k => { k with disposition := .void }
          else s.ticket p)) ∧
  (∀ (i : LineIx) (u : State) (p : PlatenIx),
    let detail : List Field := [(6, p.val), (2, 0), (8, i.val)]
    (u.location p = .loadZone ∨ u.location p = .transit → u.voidEffect i p = u) ∧
    (u.location p = .pretreatQueue ∨ u.location p = .pretreatSlot →
      u.voidEffect i p = u.raise .voidedPretreat detail) ∧
    (u.location p = .printQueue ∨ (∃ bed, u.location p = .bed bed) →
      u.voidEffect i p = u.raise .voidedPrint detail) ∧
    (∀ l, u.location p = .rack l →
      u.voidEffect i p =
        ({ u with lists := u.lists.set l ((u.lists.get l).erase p) }).setLocation p .transit) ∧
    ∀ h, u.location p = .head h →
      let d := u.heads.get h
      let releasing (v : State) : State :=
        (v.modifyHead h fun x =>
          { x with state := .releasing, outcome := .transit,
                   timer := some ⟨.release, u.press.releaseTimeout * 1000⟩ }).post h .release
      (d.state = .assigned → d.closeOnTaken = false → d.platen = some p →
        u.voidEffect i p = freed ((u.setLocation p .transit).post h .release) h) ∧
      (d.state = .assigned → d.closeOnTaken = true → u.voidEffect i p = releasing u) ∧
      (d.state = .closed →
        u.voidEffect i p =
          releasing { u with
            thermal := u.thermal.set h
              { u.thermal.get h with cycle := ⟨false, 0, .dry, 0, .none, 1⟩ } }) ∧
      (d.state = .releasing →
        u.voidEffect i p = u.modifyHead h fun x => { x with outcome := .transit }))

/-- READ_LINE changes no state and returns the group named: the fields of a line that is not FREE, or
a position of the age list; NOT_FOUND otherwise. That bit 31 of the argument selects the second word of an
AGE answered NOT_FOUND too, and that the length stands at bit 0 there, is the model's choice (log 7). -/
def Obligations.ReadLine : Prop :=
  ∀ (sel : Selector) (arg : Arg) (s : State), s.inFrame .order →
    let i : LineIx := (arg.extractLsb' 0 8).toFin
    let l := s.lines.get i
    let pos := (arg.extractLsb' 0 8).toNat
    let answers (a : Answer) : Prop := exec (.readLine sel arg) s = .next (s.finish .order a none)
    (sel = 4 → ∀ j, s.age[pos]? = some j →
      answers ⟨.ok, groupWord arg [(8, j.val), (9, s.age.length)]⟩) ∧
    (sel = 4 → s.age.length ≤ pos → answers ⟨.notFound, groupWord arg [(9, s.age.length)]⟩) ∧
    (sel ≠ 4 → l.state = .free → answers ⟨.notFound, 0⟩) ∧
    (4 < sel.toNat → answers ⟨.notFound, 0⟩) ∧
    (l.state ≠ .free →
      (sel = 0 → answers ⟨.ok, groupWord arg [(32, l.orderRef.toNat)]⟩) ∧
      (sel = 1 → answers ⟨.ok, groupWord arg
        [(6, l.artwork.val), (1, priorityCode l.priority), (1, shadeCode l.shade),
         (3, l.fabric.val), (7, l.colour.toNat), (4, l.size.toNat), (10, l.style.toNat)]⟩) ∧
      (sel = 2 → answers ⟨.ok, groupWord arg
        [(4, l.wanted), (4, l.bound), (4, l.finished), (8, l.spoiled)]⟩) ∧
      (sel = 3 → answers ⟨.ok, groupWord arg
        [(3, lineStateCode l.state), flag l.held, (3, l.lineNo.toNat), (8, l.serial)]⟩))

/-! ## Matching -/

/-- LOAD_SCAN refuses a platen at or above the platen count with NOT_FOUND and one that carries a
ticket or stands in a queue, slot, bed, list or head with BAD_STATE; with no valid extension word it
binds the platen to the line that the match policy chooses, and without a qualifying line it is
answered NO_MATCH with the number of non-FREE lines that ask for such a blank. -/
def Obligations.LoadScanAutomatic : Prop :=
  ∀ (sel : Selector) (arg : Arg) (s : State), s.inFrame .order →
    (s.params.platenCount ≤ sel.toNat →
      exec (.loadScan sel arg) s = .next (s.finish .order ⟨.notFound, 0⟩ none)) ∧
    ∀ p : PlatenIx, sel.toNat = p.val → p.val < s.params.platenCount →
      (s.ticket p ≠ none → exec (.loadScan sel arg) s = .next (s.finish .order ⟨.badState, 0⟩ none)) ∧
      (s.location p ≠ .loadZone → s.location p ≠ .transit →
        exec (.loadScan sel arg) s = .next (s.finish .order ⟨.badState, 0⟩ none)) ∧
      (Scannable s p → (s.ports.get .order).ext = none →
        (∀ i, Chosen s arg i → (s.lines.get i).bound + (s.lines.get i).finished < (s.lines.get i).wanted →
          exec (.loadScan sel arg) s =
            .next ((afterBind s p i).finish .order
              (answer .ok [(8, i.val), (8, 0), (10, boundDose s i)]) none)) ∧
        ((∀ i ∈ s.age, ¬ Qualifies s arg i) →
          exec (.loadScan sel arg) s =
            .next (s.finish .order
              (answer .noMatch
                [(9, s.lines.countIx fun l => decide (l.state ≠ .free ∧
                  l.style = arg.extractLsb' 22 10 ∧ l.size = arg.extractLsb' 18 4 ∧
                  l.colour = arg.extractLsb' 11 7))]) none)))

/-- R20: the forced path of LOAD_SCAN, its four checks in their order and the bind of a line that
passes them, held or not. -/
def Obligations.LoadScanForced : Prop :=
  ∀ (sel : Selector) (arg : Arg) (s : State) (p : PlatenIx) (w : Word), s.inFrame .order →
    sel.toNat = p.val → Scannable s p → (s.ports.get .order).ext = some w →
    let i : LineIx := (w.extractLsb' 0 8).toFin
    let l := s.lines.get i
    let asked : Prop := l.style = arg.extractLsb' 22 10 ∧ l.size = arg.extractLsb' 18 4 ∧
      l.colour = arg.extractLsb' 11 7
    let refusedWith (r : Result) : Prop :=
      exec (.loadScan sel arg) s = .next (s.finish .order ⟨r, 0⟩ none)
    (255 < w.toNat → refusedWith .notFound) ∧
    (w.toNat ≤ 255 → l.state ≠ .open_ → refusedWith .badState) ∧
    (w.toNat ≤ 255 → l.state = .open_ → ¬ asked → refusedWith .badState) ∧
    (w.toNat ≤ 255 → l.state = .open_ → asked → (s.artworks.get l.artwork).state ≠ .ready →
      refusedWith .notReady) ∧
    (w.toNat ≤ 255 → l.state = .open_ → asked → (s.artworks.get l.artwork).state = .ready →
      l.bound + l.finished < l.wanted →
      exec (.loadScan sel arg) s =
        .next ((afterBind s p i).finish .order
          (answer .ok [(8, i.val), (8, 0), (10, boundDose s i)]) none))

/-- UNLOAD: NOT_FOUND and BAD_STATE for a platen that cannot be unloaded, EMPTY for one without a
ticket, and otherwise the finish, spoil or unvoid event that the ticket decides, the artwork's ticket
count lowered, the ticket removed and the platen in LOAD_ZONE. The outcome codes are the model's
(log 11). -/
def Obligations.Unload : Prop :=
  ∀ (sel : Selector) (s : State), s.inFrame .order →
    (s.params.platenCount ≤ sel.toNat →
      exec (.unload sel) s = .next (s.finish .order ⟨.notFound, 0⟩ none)) ∧
    ∀ p : PlatenIx, sel.toNat = p.val → p.val < s.params.platenCount →
      (s.location p ≠ .transit → s.location p ≠ .loadZone →
        exec (.unload sel) s = .next (s.finish .order ⟨.badState, 0⟩ none)) ∧
      (s.location p = .transit ∨ s.location p = .loadZone →
        (s.ticket p = none →
          exec (.unload sel) s =
            .next ((s.setLocation p .loadZone).finish .order ⟨.ok, 0⟩ none)) ∧
        ∀ k : Ticket, s.ticket p = some k →
          let l := s.lines.get k.line
          let off (l2 : OrderLine) : State :=
            { s with
              lines := s.lines.set k.line l2
              platens := s.platens.set p { s.platens.get p with ticket := none, location := .loadZone }
              artworks := s.artworks.modify k.artwork fun e => { e with tickets := e.tickets - 1 } }
          let reports (u : State) (code : Nat) : Prop :=
            exec (.unload sel) s =
              .next (u.finish .order (answer .ok [(2, code), (8, k.line.val), (8, k.serial)]) none)
          (k.disposition = .good → k.stage = .cured → l.state = .open_ ∨ l.state = .full →
            1 ≤ l.bound → l.bound + l.finished ≤ l.wanted →
            let st : LineState :=
              if l.bound + l.finished < l.wanted then .open_
              else if 1 < l.bound then .full else .done
            let u := off { l with bound := l.bound - 1, finished := l.finished + 1, state := st }
            reports (if st = .done then
              u.raise .lineDone [(8, k.line.val), (3, l.lineNo.toNat), (1, 0), (4, l.finished + 1)]
              else u) 1) ∧
          (¬ (k.disposition = .good ∧ k.stage = .cured) → k.disposition ≠ .void →
            l.state = .open_ ∨ l.state = .full → 1 ≤ l.bound → l.bound + l.finished ≤ l.wanted →
            let u := off { l with bound := l.bound - 1, spoiled := min 255 (l.spoiled + 1),
                                  state := .open_ }
            reports (if k.disposition = .good then
              u.raise .garmentSpoiled [(6, p.val), (2, 0), (8, k.line.val), (3, 7)] else u) 2) ∧
          (k.disposition = .void → l.state = .cancelled →
            reports (off { l with bound := l.bound - 1 }) 3))

/-! ## Platens -/

/-- ARRIVE's checks (R46) and an ARRIVE for a platen that already stands at the station (R47): refused
or answered with the platen's position, nothing moved and no misroute counted. How the list and the place
stand in the data on the PRESS port is the model's (log 12). -/
def Obligations.ArriveChecks : Prop :=
  ∀ (q : Port) (sel : Selector) (s : State), q ≠ .order → s.inFrame q →
    (s.params.platenCount ≤ sel.toNat →
      exec (.arrive q sel) s = .next (s.finish q ⟨.notFound, 0⟩ none)) ∧
    ∀ p : PlatenIx, sel.toNat = p.val → p.val < s.params.platenCount →
      (s.location p = .pretreatSlot ∨ (∃ bed, s.location p = .bed bed) ∨ (∃ h, s.location p = .head h) →
        exec (.arrive q sel) s = .next (s.finish q ⟨.badState, 0⟩ none)) ∧
      (q = .pretreat → s.location p = .pretreatQueue → p ∈ s.pretreatQueue →
        exec (.arrive q sel) s =
          .next (s.finish q (answer .ok [(6, s.pretreatQueue.idxOf p), (6, s.pretreatQueue.length),
            (1, 0)]) none)) ∧
      (q = .print → s.location p = .printQueue → p ∈ s.printQueue →
        exec (.arrive q sel) s =
          .next (s.finish q (answer .ok [(6, s.printQueue.idxOf p), (6, s.printQueue.length), (1, 0)])
            none)) ∧
      (∀ l, q = .press → s.location p = .rack l → p ∈ s.lists.get l →
        exec (.arrive q sel) s =
          .next (s.finish q (answer .ok [(3, listCode l + 1), (2, 0), (6, (s.lists.get l).idxOf p),
            (1, 0)]) none))

/-- ARRIVE on the PRETREAT or PRINT port appends the platen at the tail of the station's queue; from
LOAD_ZONE or TRANSIT no misroute is counted, and out of another station's queue or list the platen is
taken with its misroute count raised and MISROUTE raised. -/
def Obligations.ArriveAtAQueue : Prop :=
  ∀ (q : Port) (sel : Selector) (s : State) (p : PlatenIx), q = .pretreat ∨ q = .print →
    s.inFrame q → sel.toNat = p.val → p.val < s.params.platenCount →
    let queue (u : State) : List PlatenIx := if q = .pretreat then u.pretreatQueue else u.printQueue
    let joined (u : State) : State :=
      if q = .pretreat then
        ({ u with pretreatQueue := u.pretreatQueue ++ [p] }).setLocation p .pretreatQueue
      else ({ u with printQueue := u.printQueue ++ [p] }).setLocation p .printQueue
    let reports (u : State) (mark : Nat) : Prop :=
      exec (.arrive q sel) s =
        .next ((joined u).finish q (answer .ok [(6, (queue u).length), (6, (queue u).length + 1),
          (1, mark)]) none)
    let counted (u : State) (code : Nat) : State :=
      (u.modifyPlaten p fun r => { r with misroutes := min 255 (r.misroutes + 1) }).raise .misroute
        [(6, p.val), (2, 0), (2, if q = .pretreat then 1 else 2), (4, code)]
    p ∉ queue s →
      (s.location p = .loadZone ∨ s.location p = .transit → reports s 0) ∧
      (q = .print → s.location p = .pretreatQueue →
        reports (counted { s with pretreatQueue := s.pretreatQueue.erase p } 2) 1) ∧
      (q = .pretreat → s.location p = .printQueue →
        reports (counted { s with printQueue := s.printQueue.erase p } 4) 1) ∧
      (∀ l, s.location p = .rack l →
        reports (counted { s with lists := s.lists.set l ((s.lists.get l).erase p) }
          (7 + listCode l)) 1)

/-- ARRIVE on the PRESS port, for a platen from LOAD_ZONE or TRANSIT, or out of the pretreat or print
queue, whose entries close up, with its misroute count raised and MISROUTE raised: a GOOD ticket at
PRETREATED or PRINTED joins the tail of the list of its class and priority, and a grant evaluation
follows; any other platen is answered PASS and stands in TRANSIT. How the list and the place stand in the
data is the model's (log 12). -/
def Obligations.ArriveAtThePress : Prop :=
  ∀ (sel : Selector) (s : State) (p : PlatenIx), s.inFrame .press →
    sel.toNat = p.val → p.val < s.params.platenCount →
    let counted (u : State) (code : Nat) : State :=
      (u.modifyPlaten p fun r => { r with misroutes := min 255 (r.misroutes + 1) }).raise .misroute
        [(6, p.val), (2, 0), (2, 3), (4, code)]
    ∀ (out : State) (mark : Nat),
      ((s.location p = .loadZone ∨ s.location p = .transit) ∧ out = s ∧ mark = 0) ∨
        (s.location p = .pretreatQueue ∧ mark = 1 ∧
          out = counted { s with pretreatQueue := s.pretreatQueue.erase p } 2) ∨
        (s.location p = .printQueue ∧ mark = 1 ∧
          out = counted { s with printQueue := s.printQueue.erase p } 4) →
      (∀ (k : Ticket) (l : RackList), s.ticket p = some k → k.disposition = .good →
        ((k.stage = .pretreated ∧ l = if k.priority = .rush then .dryRush else .dryStd) ∨
          (k.stage = .printed ∧ l = if k.priority = .rush then .cureRush else .cureStd)) →
        let u := (({ out with lists := s.lists.set l (s.lists.get l ++ [p]) }).setLocation p
          (.rack l)).grantEval
        exec (.arrive .press sel) s =
          .next (u.finish .press
            (answer .ok ([(3, listCode l + 1)] ++ pressPlace u p ++ [(1, mark)])) none)) ∧
      ((s.ticket p = none ∨ ∃ k, s.ticket p = some k ∧
          (k.disposition ≠ .good ∨ (k.stage ≠ .pretreated ∧ k.stage ≠ .printed))) →
        exec (.arrive .press sel) s =
          .next ((out.setLocation p .transit).finish .press
            (answer .pass [(3, 0), (2, 3), (6, 0), (1, mark)]) none))

/-- READ_PLATEN changes no state: R54's refusals, NONE for a ticket group of a platen without a ticket,
and the groups of R53. The platen read from bits 5..0 alone (log 14), the field for a list or a head
(log 13) and the priority's code (log 8) are the model's. -/
def Obligations.ReadPlaten : Prop :=
  ∀ (q : Port) (sel : Selector) (arg : Arg) (s : State), s.inFrame q →
    let n := (arg.extractLsb' 0 6).toNat
    let answers (a : Answer) : Prop := exec (.readPlaten q sel arg) s = .next (s.finish q a none)
    (s.params.platenCount ≤ n → answers ⟨.notFound, 0⟩) ∧
    (8 < sel.toNat → answers ⟨.notFound, 0⟩) ∧
    ∀ p : PlatenIx, n = p.val → p.val < s.params.platenCount →
      (sel = 0 → answers ⟨.ok, groupWord arg
        [(4, locationCode (s.location p)), (3, listOrHead (s.location p)), (6, s.position p),
         (8, (s.platens.get p).misroutes), flag (s.ticket p).isSome]⟩) ∧
      (1 ≤ sel.toNat → sel.toNat ≤ 8 → s.ticket p = none → answers ⟨.none, 0⟩) ∧
      ∀ k, s.ticket p = some k →
        (sel = 1 → answers ⟨.ok, groupWord arg
          [(8, k.line.val), (8, k.serial), (6, k.artwork.val), (3, stageCode k.stage),
           (2, dispositionCode k.disposition), (3, reasonCode k.reason)]⟩) ∧
        (sel = 2 → answers ⟨.ok, groupWord arg
          [(3, k.fabric.val), (1, shadeCode k.shade), (1, priorityCode k.priority), (10, k.dose)]⟩) ∧
        (sel = 3 → answers ⟨.ok, groupWord arg [(16, k.lc), (16, k.lw)]⟩) ∧
        (sel = 4 → answers ⟨.ok, groupWord arg
          [(11, k.applied), (3, k.sprays), (4, k.presses), (4, k.scorches), (8, k.headRetries)]⟩) ∧
        (sel = 5 → answers ⟨.ok, groupWord arg [flag k.dryTarget.isSome, (16, k.dryTarget.getD 0)]⟩) ∧
        (sel = 6 → answers ⟨.ok, groupWord arg [(16, k.dryCredit)]⟩) ∧
        (sel = 7 → answers ⟨.ok, groupWord arg [flag k.cureTarget.isSome, (16, k.cureTarget.getD 0)]⟩) ∧
        (sel = 8 → answers ⟨.ok, groupWord arg [(16, k.cureCredit)]⟩)

/-! ## Artworks -/

/-- ARTWORK_OPEN takes a FREE entry to LOADING, ARTWORK_DELETE returns an entry that no line, ticket,
load run or preflight uses to FREE, and SEGMENT_DROP returns a resident descriptor to its non-resident
values and takes a READY artwork to LOADING with its ink-load valid mark cleared; each with its
refusals, NOT_FOUND for a selector above 63 among them. -/
def Obligations.ArtworkOpenDropDelete : Prop :=
  (∀ (sel : Selector) (s : State), s.inFrame .order → 64 ≤ sel.toNat →
    exec (.artworkOpen sel) s = .next (s.finish .order ⟨.notFound, 0⟩ none) ∧
    exec (.artworkDelete sel) s = .next (s.finish .order ⟨.notFound, 0⟩ none) ∧
    ∀ arg : Arg, exec (.segmentDrop sel arg) s = .next (s.finish .order ⟨.notFound, 0⟩ none)) ∧
  ∀ (sel : Selector) (s : State) (a : ArtIx), s.inFrame .order → sel.toNat = a.val →
    let e := s.artworks.get a
    let busy : Prop := (∃ r, s.loadRun = some r ∧ r.artwork = a) ∨
      (s.engine.running = true ∧ s.engine.artwork = a)
    let put (x : Artwork) : State := { s with artworks := s.artworks.set a x }
    let with0 (i : Instr) (r : Result) : Prop := exec i s = .next (s.finish .order ⟨r, 0⟩ none)
    (e.state = .free →
      exec (.artworkOpen sel) s =
        .next ((put { Artwork.free with state := .loading }).finish .order ⟨.ok, 0⟩ none)) ∧
    (e.state ≠ .free → with0 (.artworkOpen sel) .badState) ∧
    (e.state = .free → with0 (.artworkDelete sel) .notFound) ∧
    (e.state ≠ .free → e.lines ≠ 0 ∨ e.tickets ≠ 0 → with0 (.artworkDelete sel) .inUse) ∧
    (e.state ≠ .free → e.lines = 0 → e.tickets = 0 → busy → with0 (.artworkDelete sel) .busy) ∧
    (e.state ≠ .free → e.lines = 0 → e.tickets = 0 → ¬ busy →
      exec (.artworkDelete sel) s =
        .next ((put Artwork.free).finish .order ⟨.ok, 0⟩ none)) ∧
    ∀ arg : Arg,
      let g : SegIx := (arg.extractLsb' 0 4).toFin
      let dropped : Artwork := { e with segs := e.segs.set g Segment.nonResident }
      (e.state = .free → with0 (.segmentDrop sel arg) .notFound) ∧
      (e.state ≠ .free → e.tickets ≠ 0 → with0 (.segmentDrop sel arg) .inUse) ∧
      (e.state ≠ .free → e.tickets = 0 → busy → with0 (.segmentDrop sel arg) .busy) ∧
      (e.state ≠ .free → e.tickets = 0 → ¬ busy → (e.segs.get g).resident = false →
        with0 (.segmentDrop sel arg) .badState) ∧
      (e.state ≠ .free → e.tickets = 0 → ¬ busy → (e.segs.get g).resident = true →
        exec (.segmentDrop sel arg) s =
          .next ((put (if e.state = ArtState.ready then { dropped with state := .loading, inkValid := false }
            else dropped)).finish .order ⟨.ok, 0⟩ none))

/-- A SEGMENT_SET that passes the checks makes the descriptor resident with the values of the command
and cleared sum and marks, takes a READY artwork to LOADING, and reports the first store block and the
length of the authorized range; a range that shares a store block with another resident segment's is
refused OVERLAP, and one beyond the store NOT_FOUND. Before that, in this order: BAD_STATE without a valid
extension word, NOT_FOUND for a selector above 63 or a FREE entry, NOT_FOUND for a plane or load key field
that encodes no value, IN_USE while the artwork has tickets, and BUSY while a load run is open or a
preflight is running on it. -/
def Obligations.SegmentSet : Prop :=
  (∀ (sel : Selector) (arg : Arg) (s : State), s.inFrame .order →
    let refusedWith (r : Result) : Prop :=
      exec (.segmentSet sel arg) s = .next (s.finish .order ⟨r, 0⟩ none)
    ((s.ports.get .order).ext = none → refusedWith .badState) ∧
    ((s.ports.get .order).ext ≠ none →
      (64 ≤ sel.toNat → refusedWith .notFound) ∧
      ∀ a : ArtIx, sel.toNat = a.val →
        let e := s.artworks.get a
        let encoded : Prop := (arg.extractLsb' 16 3).toNat < 5 ∧ (arg.extractLsb' 14 2).toNat < 3
        let busy : Prop := (∃ r, s.loadRun = some r ∧ r.artwork = a) ∨
          (s.engine.running = true ∧ s.engine.artwork = a)
        (e.state = .free → refusedWith .notFound) ∧
        (e.state ≠ .free → ¬ encoded → refusedWith .notFound) ∧
        (e.state ≠ .free → encoded → e.tickets ≠ 0 → refusedWith .inUse) ∧
        (e.state ≠ .free → encoded → e.tickets = 0 → busy → refusedWith .busy))) ∧
  ∀ (sel : Selector) (arg : Arg) (s : State) (a : ArtIx) (w : Word) (pl : Plane) (lk : LoadKey),
    s.inFrame .order → sel.toNat = a.val → (s.ports.get .order).ext = some w →
    let e := s.artworks.get a
    e.state ≠ .free → planeOf (arg.extractLsb' 16 3).toNat = some pl →
    loadKeyOf (arg.extractLsb' 14 2).toNat = some lk → e.tickets = 0 →
    ¬ (∃ r, s.loadRun = some r ∧ r.artwork = a) →
    ¬ (s.engine.running = true ∧ s.engine.artwork = a) →
    let g : SegIx := (arg.extractLsb' 28 4).toFin
    let len := (arg.extractLsb' 20 8).toNat
    let down := arg.getLsbD 19
    let lo := w.toNat + if down then len else 0
    let hi := w.toNat + if down then 255 else len
    let new : Segment :=
      { resident := true, base := w.toNat, len := len, dir := if down then .down else .up,
        plane := pl, loadKey := lk, printKey := if arg.getLsbD 13 then .read else .absent,
        written := false, valid := false, sum := 0 }
    let clash : Prop := ∃ b h, ¬ (b = a ∧ h = g) ∧ (s.segment b h).resident = true ∧
      lo ≤ (s.segment b h).lastStore ∧ (s.segment b h).firstStore ≤ hi
    let placed : Artwork := { e with segs := e.segs.set g new }
    (131071 < hi → exec (.segmentSet sel arg) s = .next (s.finish .order ⟨.notFound, 0⟩ none)) ∧
    (hi ≤ 131071 → clash →
      exec (.segmentSet sel arg) s = .next (s.finish .order ⟨.overlap, 0⟩ none)) ∧
    (hi ≤ 131071 → ¬ clash →
      exec (.segmentSet sel arg) s =
        .next (({ s with
          artworks := s.artworks.set a
            (if e.state = ArtState.ready then { placed with state := .loading, inkValid := false }
             else placed) }).finish .order
          ⟨.ok, BitVec.ofNat 32 (lo + 2 ^ 24 * (hi - lo))⟩ none))

/-- LOAD_RUN opens a run on a segment that the load side may write, taking a READY artwork to LOADING;
on a segment it may not write it is answered FAULT and the fault is recorded with origin RUN_OPEN. Before
that, in this order: NOT_FOUND for a selector above 63 or a FREE entry, IN_USE while the artwork has
tickets, and BUSY while a load run is open on any artwork or a preflight is running on this one.
LOAD_ABORT ends the open run with LOAD_RUN_END, a block in progress then belonging to no run, and is
answered NONE without one. -/
def Obligations.LoadRunOpenAndAbort : Prop :=
  ∀ (sel : Selector) (arg : Arg) (s : State), s.inFrame .order →
    let g : SegIx := (arg.extractLsb' 28 4).toFin
    let first := (arg.extractLsb' 20 8).toNat
    let refusedWith (r : Result) : Prop :=
      exec (.loadRun sel arg) s = .next (s.finish .order ⟨r, 0⟩ none)
    (64 ≤ sel.toNat → refusedWith .notFound) ∧
    (∀ a : ArtIx, sel.toNat = a.val →
      let e := s.artworks.get a
      let d := e.segs.get g
      let busy : Prop := s.loadRun ≠ none ∨ (s.engine.running = true ∧ s.engine.artwork = a)
      (e.state = .free → refusedWith .notFound) ∧
      (e.state ≠ .free → e.tickets ≠ 0 → refusedWith .inUse) ∧
      (e.state ≠ .free → e.tickets = 0 → busy → refusedWith .busy) ∧
      (e.state ≠ .free → e.tickets = 0 → ¬ busy →
        (d.resident = true → d.loadKey = .readWrite →
          exec (.loadRun sel arg) s =
            .next (({ s with
              loadRun := some ⟨a, g, first, (arg.extractLsb' 12 8).toNat + 1, 0⟩
              artworks := s.artworks.set a
                (if e.state = ArtState.ready then { e with state := .loading, inkValid := false } else e)
              }).finish .order ⟨.ok, 0⟩ none)) ∧
        (d.resident = false ∨ d.loadKey ≠ .readWrite →
          exec (.loadRun sel arg) s =
            .next ((s.recordFault .load
              ⟨!d.resident || d.loadKey == .absent, false, d.resident && d.loadKey == .read⟩ .runOpen a g
              (.atOpen first) .a).finish .order ⟨.fault, 0⟩ none)))) ∧
    (s.loadRun = none → exec .loadAbort s = .next (s.finish .order ⟨.none, 0⟩ none)) ∧
    (∀ r, s.loadRun = some r →
      exec .loadAbort s =
        .next ((({ s with
            loadRun := none
            loadBlock := s.loadBlock.map fun b => ⟨b.words, false⟩ } : State).raise .loadRunEnd
          [(9, r.written), (1, 0), (2, 3), (4, r.segment.val), (6, r.artwork.val)]).finish .order
          (answer .ok [(9, r.written)]) none))

/-- A refused access on a side freezes its empty record with the fault's fields and raises the side's
notice: the block is the one addressed, a run's first block at its open, or the edge block stepped over,
for which alone the edge mark is set. On a frozen record it sets OVERRUN alone. READ_FAULT returns a frozen
record and changes nothing; CLEAR_FAULT empties it and reports its flags and OVERRUN; both are answered
NONE on an empty record and NOT_FOUND for a selector naming no side. The codes of the origins and their
width of 3 bits are the model's (log 10). -/
def Obligations.FaultRecords : Prop :=
  ∀ (q : Port) (sel : Selector) (arg : Arg) (s : State), q = .order ∨ q = .print → s.inFrame q →
    (2 ≤ sel.toNat →
      exec (.readFault q sel arg) s = .next (s.finish q ⟨.notFound, 0⟩ none) ∧
      exec (.clearFault q sel) s = .next (s.finish q ⟨.notFound, 0⟩ none)) ∧
    ∀ side : Side, (sel = 0 ∧ side = .load) ∨ (sel = 1 ∧ side = .print) →
      let r := s.faults.get side
      (r.frozen = false →
        exec (.readFault q sel arg) s = .next (s.finish q ⟨.none, 0⟩ none) ∧
        exec (.clearFault q sel) s = .next (s.finish q ⟨.none, 0⟩ none) ∧
        ∀ (f : AccessFlags) (o : FaultOrigin) (a : ArtIx) (g : SegIx) (b : Nat) (bed : Bed),
          let freezes (x : AccessBlock) (edge : Bool) : Prop :=
            s.recordFault side f o a g x bed =
              ({ s with faults := s.faults.set side ⟨true, f, o, a, g, b, edge, bed, false⟩ }).raise
                (match side with | .load => .faultLoad | .print => .faultPrint)
                [(8, b), (4, g.val), (6, a.val), flag f.readOnly, flag f.length, flag f.nonResident,
                 (1, bedCode bed)]
          freezes (.block b) false ∧ freezes (.atOpen b) false ∧ freezes (.edge b) true) ∧
      (r.frozen = true →
        exec (.readFault q sel arg) s =
          .next (s.finish q ⟨.ok, groupWord arg
            [(1, 1), flag r.flags.nonResident, flag r.flags.length, flag r.flags.readOnly,
             (3, originCode r.origin), (6, r.artwork.val), (4, r.segment.val), (8, r.block),
             flag r.edge, (1, bedCode r.bed), flag r.overrun]⟩ none) ∧
        exec (.clearFault q sel) s =
          .next (({ s with
            faults :=
              s.faults.set side ⟨false, ⟨false, false, false⟩, .runOpen, 0, 0, 0, false, .a, false⟩
            }).finish q (answer .ok [flag r.flags.nonResident, flag r.flags.length, flag r.flags.readOnly,
              flag r.overrun]) none) ∧
        ∀ (f : AccessFlags) (o : FaultOrigin) (a : ArtIx) (g : SegIx) (b : AccessBlock) (bed : Bed),
          s.recordFault side f o a g b bed =
            { s with faults := s.faults.set side { r with overrun := true } })

/-- Words on the load link, taken one by one. Outside a block every word but a start marker is discarded;
a start marker begins a block, which belongs to the load run open then, and holds the data words that
follow. A control word or a rejected word before the check word ends the block early, and a start marker
there begins a new one. A block that belongs to no open run is discarded, good or bad; a block ended
early, or whose check word is not the sum of its words, ends its run LINK_ERROR; a good block in the
authorized range is written whole into its store block, every other store block unchanged, its segment's
written mark is set and the run's written count rises, COMPLETE at the count; a good block outside the
range is discarded and ends the run LENGTH_FAULT with the fault recorded. That the command carries words,
and not whole blocks, is the model's choice (log 17). -/
def Obligations.LoadLinkBlock : Prop :=
  (∀ (v w : LinkWord) (more : List LinkWord) (s t : State),
    exec (.loadLinkBlock v []) s = .next t →
    exec (.loadLinkBlock v (w :: more)) s = exec (.loadLinkBlock w more) t) ∧
  (∀ (s : State) (w : LinkWord), s.loadBlock = none → w ≠ .control .start →
    exec (.loadLinkBlock w []) s = .next s) ∧
  (∀ (s : State) (ws : List Word), s.loadBlock = none → ws.length ≤ 1024 →
    exec (.loadLinkBlock (.control .start) (ws.map .data)) s =
      .next { s with loadBlock := some ⟨ws, decide (s.loadRun ≠ none)⟩ }) ∧
  ∀ (s : State) (b : LoadBlock), s.loadBlock = some b →
    let out : State := { s with loadBlock := none }
    let begun (u : State) : State := { u with loadBlock := some ⟨[], decide (u.loadRun ≠ none)⟩ }
    let early (w : LinkWord) : Prop :=
      w = .control .idle ∨ w = .control .endMark ∨ w = .control .cut ∨ w = .rejected
    (s.loadRun = none ∨ b.inRun = false →
      (∀ w, early w → exec (.loadLinkBlock w []) s = .next out) ∧
      exec (.loadLinkBlock (.control .start) []) s = .next (begun out) ∧
      (b.words.length = 1024 → ∀ chk, exec (.loadLinkBlock (.data chk) []) s = .next out)) ∧
    ∀ r, s.loadRun = some r → b.inRun = true →
      let ends (u : State) (written code : Nat) : State :=
        ({ u with loadRun := none, loadBlock := none } : State).raise .loadRunEnd
          [(9, written), (1, 0), (2, code), (4, r.segment.val), (6, r.artwork.val)]
      let n := r.first + r.written
      let d := s.segment r.artwork r.segment
      (∀ w, early w → exec (.loadLinkBlock w []) s = .next (ends s r.written 2)) ∧
      exec (.loadLinkBlock (.control .start) []) s = .next (begun (ends s r.written 2)) ∧
      ∀ chk : Word, b.words.length = 1024 →
        (chk ≠ b.words.foldl (· + ·) 0 →
          exec (.loadLinkBlock (.data chk) []) s = .next (ends s r.written 2)) ∧
        (chk = b.words.foldl (· + ·) 0 →
          (255 < n →
            ∃ f : AccessFlags, f.length = true ∧
              exec (.loadLinkBlock (.data chk) []) s =
                .next (ends (s.recordFault .load f .runBlock r.artwork r.segment (.edge 255) .a)
                  r.written 1)) ∧
          (255 < n → d.resident = true → d.loadKey = .readWrite →
            exec (.loadLinkBlock (.data chk) []) s =
              .next (ends (s.recordFault .load ⟨false, true, false⟩ .runBlock r.artwork r.segment
                (.edge 255) .a) r.written 1)) ∧
          (n ≤ 255 → d.resident = true → d.loadKey = .readWrite → ¬ (d.lowBlock ≤ n ∧ n ≤ d.highBlock) →
            exec (.loadLinkBlock (.data chk) []) s =
              .next (ends (s.recordFault .load ⟨false, true, false⟩ .runBlock r.artwork r.segment
                (.block n) .a) r.written 1)) ∧
          (n ≤ 255 → d.resident = true → d.loadKey = .readWrite → d.lowBlock ≤ n → n ≤ d.highBlock →
            d.base + n < 131072 →
            ∃ t, exec (.loadLinkBlock (.data chk) []) s = .next t ∧
              (∀ w : Fin 1024, b.words[w.val]? = some (t.storeWord (d.base + n) w)) ∧
              (∀ c w, c ≠ d.base + n → t.storeWord c w = s.storeWord c w) ∧
              t.artworks = (s.modifySegment r.artwork r.segment fun g =>
                { g with written := true }).artworks ∧
              t.faults = s.faults ∧ t.lines = s.lines ∧ t.platens = s.platens ∧ t.loadBlock = none ∧
              (r.written + 1 ≠ r.count →
                t.loadRun = some { r with written := r.written + 1 } ∧ t.ports = s.ports) ∧
              (r.written + 1 = r.count →
                t.loadRun = none ∧ t.ports = (ends s (r.written + 1) 0).ports)))

/-- READ_WORD changes no state where the access is granted, and returns the word last written to the
block, or a value that nothing fixes where none has been written since power-on; a refused access is
answered FAULT and recorded: LENGTH outside the authorized range, NON_RESIDENT where the load key is
ABSENT, both where both hold, and NON_RESIDENT alone where the segment is not resident. -/
def Obligations.ReadWord : Prop :=
  ∀ (sel : Selector) (arg : Arg) (s : State), s.inFrame .order →
    let g : SegIx := (arg.extractLsb' 0 4).toFin
    let b := (arg.extractLsb' 4 8).toNat
    let w : Fin 1024 := (arg.extractLsb' 12 10).toFin
    (64 ≤ sel.toNat → exec (.readWord sel arg) s = .next (s.finish .order ⟨.notFound, 0⟩ none)) ∧
    ∀ a : ArtIx, sel.toNat = a.val →
      let d := s.segment a g
      ((s.artworks.get a).state = .free →
        exec (.readWord sel arg) s = .next (s.finish .order ⟨.notFound, 0⟩ none)) ∧
      ((s.artworks.get a).state ≠ .free →
        (d.resident = true → d.loadKey ≠ .absent → d.lowBlock ≤ b → b ≤ d.highBlock →
          ∃ v, exec (.readWord sel arg) s = .next (s.finish .order ⟨.ok, v⟩ none) ∧
            ∀ x, Memory.block s.store (d.base + b) = some x → v = x.get w) ∧
        (d.resident = true → d.loadKey ≠ .absent → ¬ (d.lowBlock ≤ b ∧ b ≤ d.highBlock) →
          exec (.readWord sel arg) s =
            .next ((s.recordFault .load ⟨false, true, false⟩ .readWord a g (.block b) .a).finish .order
              ⟨.fault, 0⟩ none)) ∧
        (d.resident = true → d.loadKey = .absent →
          exec (.readWord sel arg) s =
            .next ((s.recordFault .load ⟨true, decide (¬ (d.lowBlock ≤ b ∧ b ≤ d.highBlock)), false⟩
              .readWord a g (.block b) .a).finish .order ⟨.fault, 0⟩ none)) ∧
        (d.resident = false →
          exec (.readWord sel arg) s =
            .next ((s.recordFault .load ⟨true, false, false⟩ .readWord a g (.block b) .a).finish .order
              ⟨.fault, 0⟩ none)))

/-- READ_ARTWORK and READ_PREFLIGHT change no state and return the groups of R78 and R91, a value whose
mark is clear reading as 0; a selector naming no group is answered NOT_FOUND. The artwork is read from bits
5..0 of the argument alone, so that every encoding of it names an entry (log 14), and bit i of a map stands
for segment i (log 28), both the model's. -/
def Obligations.ReadArtworkAndPreflight : Prop :=
  ∀ (q : Port) (sel : Selector) (arg : Arg) (s : State), q = .order ∨ q = .print → s.inFrame q →
    let a : ArtIx := (arg.extractLsb' 0 6).toFin
    let g : SegIx := (arg.extractLsb' 6 4).toFin
    let e := s.artworks.get a
    let d := e.segs.get g
    let art (x : Answer) : Prop := exec (.readArtwork q sel arg) s = .next (s.finish q x none)
    let pre (x : Answer) : Prop := exec (.readPreflight q sel arg) s = .next (s.finish q x none)
    (4 ≤ sel.toNat → art ⟨.notFound, 0⟩) ∧
    (sel = 0 → art ⟨.ok, groupWord arg [(2, artStateCode e.state), flag e.inkValid, (9, e.lines),
      (6, e.tickets), flag (s.loadRunOn a), flag (s.preflightOn a)]⟩) ∧
    (sel = 1 → art ⟨.ok, groupWord arg
      [(16, segMap e.segs Segment.resident), (16, segMap e.segs Segment.written)]⟩) ∧
    (sel = 2 → art ⟨.ok, groupWord arg
      [(16, segMap e.segs Segment.valid), (16, segMap e.segs fun g => g.printKey == .read)]⟩) ∧
    (sel = 3 → art ⟨.ok, groupWord arg [(17, d.base), (8, d.len), (1, directionCode d.dir),
      (3, planeCode d.plane), (2, loadKeyCode d.loadKey), (1, printKeyCode d.printKey)]⟩) ∧
    (5 ≤ sel.toNat → pre ⟨.notFound, 0⟩) ∧
    (sel = 0 → pre ⟨.ok, groupWord arg [(16, if e.inkValid then e.lc else 0), flag e.inkValid]⟩) ∧
    (sel = 1 → pre ⟨.ok, groupWord arg [(16, if e.inkValid then e.lw else 0), flag e.inkValid]⟩) ∧
    (sel = 2 → 5 ≤ (arg.extractLsb' 6 3).toNat → pre ⟨.notFound, 0⟩) ∧
    (∀ p : Plane, sel = 2 → (arg.extractLsb' 6 3).toNat = planeCode p →
      pre ⟨.ok, groupWord arg [(28, if e.inkValid then e.totals.get p else 0), flag e.inkValid]⟩) ∧
    (sel = 3 → pre ⟨.ok, groupWord arg
      [(24, if d.valid then d.sum else 0), flag d.valid, flag d.written]⟩) ∧
    (sel = 4 → pre ⟨.ok, groupWord arg [flag s.engine.running, (6, s.engine.artwork.val),
      (1, modeCode s.engine.mode), (4, s.engine.current.val), (5, s.engine.segsDone),
      (13, s.engine.blocks)]⟩)

/-! ## Preflight -/

/-- PREFLIGHT_START: R81's refusals in their order, NOT_FOUND for a selector above 63 among them, and the
start of a preflight whose scan list, the printable segments that the mode lists in rising order, is not
empty; with an empty list the preflight completes at once: plane totals, Lc and Lw from the sums that
stand, READY with the ink loads valid, PREFLIGHT_END with Lw, and nothing else changed. -/
def Obligations.PreflightStart : Prop :=
  (∀ (sel : Selector) (arg : Arg) (s : State), s.inFrame .order → 64 ≤ sel.toNat →
    exec (.preflightStart sel arg) s = .next (s.finish .order ⟨.notFound, 0⟩ none)) ∧
  ∀ (sel : Selector) (arg : Arg) (s : State) (a : ArtIx), s.inFrame .order → sel.toNat = a.val →
    let e := s.artworks.get a
    let incremental := arg.getLsbD 0
    let printable (g : SegIx) : Prop :=
      (e.segs.get g).resident = true ∧ (e.segs.get g).printKey = .read
    let listed (g : SegIx) : Bool :=
      (e.segs.get g).resident && (e.segs.get g).printKey == .read &&
        (!incremental || (e.segs.get g).written || !(e.segs.get g).valid)
    let l := (List.finRange 16).filter listed
    let total (p : Plane) : Nat :=
      ((e.segs.cells.filter fun g => g.resident && g.printKey == .read && g.plane == p).map
        Segment.sum).sum
    let refusedWith (r : Result) : Prop :=
      exec (.preflightStart sel arg) s = .next (s.finish .order ⟨r, 0⟩ none)
    let busy : Prop := s.engine.running = true ∨ ∃ r, s.loadRun = some r ∧ r.artwork = a
    (e.state = .free → refusedWith .notFound) ∧
    (e.state ≠ .free → e.tickets ≠ 0 → refusedWith .inUse) ∧
    (e.state ≠ .free → e.tickets = 0 → busy → refusedWith .busy) ∧
    (e.state ≠ .free → e.tickets = 0 → ¬ busy → (∀ g, ¬ printable g) → refusedWith .notReady) ∧
    ((e.state ≠ .free → e.tickets = 0 → ¬ busy → (∃ g, printable g) → l = [] →
      exec (.preflightStart sel arg) s =
        .next ((({ s with
          artworks := s.artworks.set a
            { e with
              state := .ready
              inkValid := true
              totals := ⟨total .c, total .m, total .y, total .k, total .w⟩
              lc := (total .c + total .m + total .y + total .k) / 4096
              lw := total .w / 4096 }
          engine := Engine.idle } : State).raise .preflightEnd
            [(16, total .w / 4096), (6, a.val), (1, 0)]).finish .order ⟨.ok, 0⟩ none))) ∧
    ∀ g rest, e.state ≠ .free → e.tickets = 0 → ¬ busy → l = g :: rest →
      exec (.preflightStart sel arg) s =
        .next (({ s with
          artworks := s.artworks.set a { e with state := .preflight, inkValid := false }
          engine := ⟨true, a, if incremental then .incremental else .full, l, g, 0, 0, 0, 0⟩
          }).finish .order
          (answer .ok [(5, l.length),
            (13, l.foldl (fun n g => n + (e.segs.get g).blockCount) 0)]) none)

/-- A block read adds its drop levels, the 2-bit values of the 16 pixels of each of its 1024 words, to the
running sum; the last block of a segment writes the sum, sets segment-valid and clears the written mark,
and moves to the next listed segment. PREFLIGHT_ABANDON takes the artwork to LOADING and the engine to
IDLE and raises PREFLIGHT_END, and is answered NONE on an IDLE engine. That blocks are read in rising
order is the model's choice (log 6). -/
def Obligations.PreflightRuns : Prop :=
  ∀ s : State,
    let n := s.engine
    let d := s.segment n.artwork n.current
    let sum := n.sum + s.blockLevels (d.base + d.lowBlock + n.inSegment)
    (∀ b, s.blockLevels b =
      ((List.finRange 1024).map fun w =>
        ((List.range 16).map fun i => ((s.storeWord b w).extractLsb' (2 * i) 2).toNat).sum).sum) ∧
    (n.running = false → exec .preflightBlockRead s = .next s) ∧
    (n.running = true → n.inSegment + 1 < d.blockCount →
      exec .preflightBlockRead s =
        .next { s with engine := { n with
          sum := sum, blocks := n.blocks + 1, inSegment := n.inSegment + 1 } }) ∧
    (∀ g, n.running = true → n.inSegment + 1 = d.blockCount → n.scanList[n.segsDone + 1]? = some g →
      exec .preflightBlockRead s =
        .next ({ s with engine := { n with
            sum := 0, blocks := n.blocks + 1, inSegment := 0, segsDone := n.segsDone + 1,
            current := g } }.modifySegment n.artwork n.current fun x =>
          { x with sum := sum, valid := true, written := false })) ∧
    (s.inFrame .order → n.running = false →
      exec .preflightAbandon s = .next (s.finish .order ⟨.none, 0⟩ none)) ∧
    (s.inFrame .order → n.running = true →
      exec .preflightAbandon s =
        .next ((({ s with
          artworks := s.artworks.set n.artwork { s.artworks.get n.artwork with state := .loading }
          engine := Engine.idle }).raise .preflightEnd [(16, 0), (6, n.artwork.val), (1, 1)]).finish
            .order (answer .ok [(6, n.artwork.val), (5, n.segsDone)]) none))

/-- The finish of the last listed segment completes the preflight: each plane total is the sum of the
printable segments of the plane, Lc and Lw are the colour and white totals divided by 4096, the artwork
is READY with its ink loads valid, the engine is IDLE, and PREFLIGHT_END carries Lw. The last block's drop
levels (the 2-bit values of the 16 pixels of its 1024 words) are in the sum; which block is the last
follows from the rising order in which blocks are read, the model's choice (log 6). -/
def Obligations.PreflightCompletes : Prop :=
  ∀ s : State,
    let n := s.engine
    let d := s.segment n.artwork n.current
    let sum := n.sum + s.blockLevels (d.base + d.lowBlock + n.inSegment)
    n.running = true → n.inSegment + 1 = d.blockCount → n.scanList[n.segsDone + 1]? = none →
    let e := (s.artworks.get n.artwork).segs.set n.current
      { d with sum := sum, valid := true, written := false }
    (∀ b, s.blockLevels b =
      ((List.finRange 1024).map fun w =>
        ((List.range 16).map fun i => ((s.storeWord b w).extractLsb' (2 * i) 2).toNat).sum).sum) ∧
    let total (p : Plane) : Nat :=
      ((e.cells.filter fun g => g.resident && g.printKey == .read && g.plane == p).map
        Segment.sum).sum
    ∃ t, exec .preflightBlockRead s = .next t ∧ t.engine = Engine.idle ∧
      (t.artworks.get n.artwork).state = .ready ∧ (t.artworks.get n.artwork).inkValid = true ∧
      (t.artworks.get n.artwork).segs = e ∧
      (∀ p, (t.artworks.get n.artwork).totals.get p = total p) ∧
      (t.artworks.get n.artwork).lc = (total .c + total .m + total .y + total .k) / 4096 ∧
      (t.artworks.get n.artwork).lw = total .w / 4096 ∧
      (∀ a, a ≠ n.artwork → t.artworks.get a = s.artworks.get a) ∧
      t.notice .preflightEnd = ⟨true, packDetail [(16, total .w / 4096), (6, n.artwork.val), (1, 0)]⟩ ∧
      t.lines = s.lines ∧ t.platens = s.platens ∧ t.store = s.store ∧ t.loadRun = s.loadRun ∧
      t.beds = s.beds ∧ t.heads = s.heads ∧ t.faults = s.faults

/-! ## Pretreatment -/

/-- R100 and R101: PRETREAT_START's refusals, and its answer and effect by the platen's ticket. -/
def Obligations.PretreatStart : Prop :=
  ∀ (sel : Selector) (s : State), s.inFrame .pretreat →
    let put (u : State) (a : Answer) : Prop :=
      exec (.pretreatStart sel) s = .next (u.finish .pretreat a none)
    (s.params.platenCount ≤ sel.toNat → put s ⟨.notFound, 0⟩) ∧
    ∀ p : PlatenIx, sel.toNat = p.val → p.val < s.params.platenCount →
      (s.location p ≠ .pretreatQueue → put s ⟨.badState, 0⟩) ∧
      (∀ x : PlatenIx, s.location p = .pretreatQueue → s.slot = some x →
        put s ⟨.busy, BitVec.ofNat 32 x.val⟩) ∧
      (s.location p = .pretreatQueue → s.slot = none →
        let left : State := { s with pretreatQueue := s.pretreatQueue.erase p }
        (s.ticket p = none → put (left.setLocation p .transit) ⟨.pass, 0⟩) ∧
        ∀ k : Ticket, s.ticket p = some k →
          (k.disposition ≠ .good → put (left.setLocation p .transit) ⟨.pass, 0⟩) ∧
          (k.disposition = .good → k.stage ≠ .bound → put s ⟨.badState, 0⟩) ∧
          (k.disposition = .good → k.stage = .bound → k.dose = 0 →
            put { left with
                platens := s.platens.set p
                  { s.platens.get p with
                    location := .transit
                    ticket := some { k with stage := .primed } } }
              ⟨.skip, 0⟩) ∧
          (k.disposition = .good → k.stage = .bound → k.dose ≠ 0 →
            put { left with
                slot := some p
                platens := s.platens.set p
                  { s.platens.get p with
                    location := .pretreatSlot
                    ticket := some { k with stage := .pretreating, sprays := 1 } } }
              (answer .ok [(10, k.dose), (3, 1)])))

/-- PRETREAT_DONE on a platen in the slot: PASS without a judgement for a VOID ticket; for a GOOD one
the amount, held at 2000, is added, and the spray is judged good (dry target, PRETREATED, to TRANSIT),
short with a top-up ordered, or short and spoiled; NOT_FOUND for a platen at or above the platen count.
That the amount is the whole argument (log 14), and the outcome's 2-bit code with UNDERDOSE 2 beside GOOD 0
and OVERDOSE 1 (log 22), is the model's. -/
def Obligations.PretreatDone : Prop :=
  (∀ (sel : Selector) (arg : Arg) (s : State), s.inFrame .pretreat → s.params.platenCount ≤ sel.toNat →
    exec (.pretreatDone sel arg) s = .next (s.finish .pretreat ⟨.notFound, 0⟩ none)) ∧
  ∀ (sel : Selector) (arg : Arg) (s : State) (p : PlatenIx), s.inFrame .pretreat →
    sel.toNat = p.val → p.val < s.params.platenCount →
    let put (u : State) (a : Answer) : Prop :=
      exec (.pretreatDone sel arg) s = .next (u.finish .pretreat a none)
    (s.location p ≠ .pretreatSlot → put s ⟨.badState, 0⟩) ∧
    ∀ k : Ticket, s.location p = .pretreatSlot → s.ticket p = some k →
      let row := s.fabric.get k.fabric
      let total := min 2000 (k.applied + min arg.toNat 2000)
      let held (x : Ticket) (l : Location) : Table Platen 48 :=
        s.platens.set p { s.platens.get p with location := l, ticket := some x }
      (k.disposition = .void →
        put { s with slot := none, platens := held k .transit } ⟨.pass, 0⟩) ∧
      (k.disposition = .good → k.stage = .pretreating →
        (k.dose ≤ total + row.underTol →
          let dry := min 65535 (total * row.kdry / 4)
          put { s with
              slot := none
              platens := held { k with applied := total, stage := .pretreated, dryTarget := some dry }
                .transit }
            (answer (if 2000 < arg.toNat then .clamped else .ok)
              [(2, if k.dose + row.overTol < total then 1 else 0), (11, total), (16, dry)])) ∧
        (total + row.underTol < k.dose → k.sprays ≤ s.params.resprayLimit →
          put { s with
              platens := held { k with applied := total, sprays := k.sprays + 1 } .pretreatSlot }
            (answer .topup [(10, max (k.dose - total) s.params.minTopup), (3, k.sprays + 1)])) ∧
        (total + row.underTol < k.dose → s.params.resprayLimit < k.sprays →
          put (({ s with
              slot := none
              platens := held
                { k with applied := total, disposition := .spoiled, reason := some .underdose } .transit
              }).raise .garmentSpoiled [(6, p.val), (2, 0), (8, k.line.val), (3, 1)])
            (answer .ok [(2, 2), (11, total)])))

/-! ## Printing -/

/-- R111 and R112: PRINT_START's refusals, and its answer and effect by the platen's ticket. A ticket at
PRETREATING or PRINTING cannot stand in the print queue (log 15). -/
def Obligations.PrintStart : Prop :=
  ∀ (sel : Selector) (arg : Arg) (s : State), s.inFrame .print →
    let n := (arg.extractLsb' 0 8).toNat
    let put (u : State) (a : Answer) : Prop :=
      exec (.printStart sel arg) s = .next (u.finish .print a none)
    (2 ≤ sel.toNat ∨ s.params.platenCount ≤ n → put s ⟨.notFound, 0⟩) ∧
    ∀ (bed : Bed) (p : PlatenIx), sel.toNat = bedCode bed → n = p.val →
      p.val < s.params.platenCount →
      let ses := s.beds.get bed
      (ses.active = true → put s ⟨.busy, BitVec.ofNat 32 ses.platen.val⟩) ∧
      (ses.active = false → s.location p ≠ .printQueue → put s ⟨.badState, 0⟩) ∧
      (ses.active = false → s.location p = .printQueue →
        let left : State := { s with printQueue := s.printQueue.erase p }
        (s.ticket p = none → put (left.setLocation p .transit) ⟨.pass, 0⟩) ∧
        ∀ k : Ticket, s.ticket p = some k →
          (k.disposition ≠ .good → put (left.setLocation p .transit) ⟨.pass, 0⟩) ∧
          (k.disposition = .good → k.stage = .bound ∨ k.stage = .pretreated →
            put s ⟨.notReady, BitVec.ofNat 32 (stageCode k.stage)⟩) ∧
          (k.disposition = .good → k.stage = .printed ∨ k.stage = .cured →
            put s ⟨.badState, BitVec.ofNat 32 (stageCode k.stage)⟩) ∧
          (k.disposition = .good → k.stage = .primed →
            put { left with
                platens := s.platens.set p
                  { s.platens.get p with
                    location := .bed bed
                    ticket := some { k with stage := .printing } }
                beds := s.beds.set bed ⟨true, p, k.artwork, k.line, 0, none⟩ }
              (answer .ok [(6, k.artwork.val), (8, k.line.val)])))

/-- R113's refusals of STRIPE; a good STRIPE opens its run and hands the link (R116), whose step may begin
a send, wait, or be refused, which ends the run at once (R114), and is answered OK with the count in each
case. So a run opened while a block is being sent waits, and a run opened on an idle link with no other run
is handed the link at once, and its first block's send begins with a START header, whose unoccupied bits
are 0 by the model's choice (log 27). -/
def Obligations.StripeOpens : Prop :=
  ∀ (sel : Selector) (arg : Arg) (s : State), s.inFrame .print →
    let put (u : State) (a : Answer) : Prop :=
      exec (.stripe sel arg) s = .next (u.finish .print a none)
    (2 ≤ sel.toNat → put s ⟨.notFound, 0⟩) ∧
    ∀ bed : Bed, sel.toNat = bedCode bed →
      let ses := s.beds.get bed
      let g : SegIx := (arg.extractLsb' 28 4).toFin
      let first := (arg.extractLsb' 20 8).toNat
      let count := (arg.extractLsb' 12 8).toNat + 1
      let d := s.segment ses.artwork g
      let good : Prop := ∃ k, s.ticket ses.platen = some k ∧ k.disposition = .good
      let run : StripeRun := ⟨g, if arg.getLsbD 11 then .desc else .asc, first, count, 0, 0⟩
      let opened : State := { s with beds := s.beds.set bed { ses with run := some run } }
      (ses.active = false → put s ⟨.badState, 0⟩) ∧
      (ses.active = true → ses.run ≠ none → put s ⟨.busy, 0⟩) ∧
      (ses.active = true → ses.run = none → ¬ good → put s ⟨.pass, 0⟩) ∧
      (ses.active = true → ses.run = none → good → d.resident = false ∨ d.printKey = .absent →
        put (s.recordFault .print ⟨true, false, false⟩ .stripeOpen ses.artwork g (.atOpen first) bed)
          ⟨.fault, 0⟩) ∧
      (ses.active = true → ses.run = none → good → d.resident = true → d.printKey = .read →
        put opened.handLink ⟨.ok, BitVec.ofNat 32 count⟩ ∧
        (s.link.sending ≠ none → put opened ⟨.ok, BitVec.ofNat 32 count⟩) ∧
        (s.link.sending = none → (s.beds.get (otherBed bed)).run = none →
          d.lowBlock ≤ first → first ≤ d.highBlock →
          put { opened with
              link := ⟨some ⟨bed, g, first, d.base + first⟩, bed⟩
              stripeOut := s.stripeOut ++
                [.start (BitVec.ofNat 24 (first + 256 * g.val + 65536 * bedCode bed))] }
            ⟨.ok, BitVec.ofNat 32 count⟩))

/-- The link is handed to the bed other than the last-served one where both wait, and to the waiting bed
where one does (R116). A refused step, outside the authorized range or past block 255 or below block 0
(EDGE), ends its run LENGTH_FAULT with the fault recorded and leaves the mark (R114); the link is then
handed again, until a send begins or no run waits. That the unoccupied bits of the START header are 0 is the
model's choice (log 27). -/
def Obligations.LinkIsHandedAlternately : Prop :=
  (∀ s : State, s.handLink = s.handOnce.handOnce ∧ s.handLink.handOnce = s.handLink ∧
    (s.link.sending ≠ none → s.handOnce = s) ∧
    ((∀ bed r, (s.beds.get bed).run = some r → r.count ≤ r.sent) → s.handOnce = s)) ∧
  ∀ (s : State) (bed : Bed) (r : StripeRun), s.link.sending = none → (s.beds.get bed).run = some r →
    r.sent < r.count →
    (s.link.lastServed ≠ bed ∨
      ∀ x, (s.beds.get (otherBed bed)).run = some x → x.count ≤ x.sent) →
    let ses := s.beds.get bed
    let d := s.segment ses.artwork r.segment
    let inside : Prop := match r.dir with
      | .asc => r.first + r.nextStep ≤ 255
      | .desc => r.nextStep ≤ r.first
    let b := match r.dir with
      | .asc => r.first + r.nextStep
      | .desc => r.first - r.nextStep
    let refusedAt (x : AccessBlock) : State :=
      ({ s.recordFault .print ⟨false, true, false⟩ .stripeBlock ses.artwork r.segment x bed
          with beds := s.beds.set bed { ses with run := none } }).raise (.stripeEnd bed)
        [(9, r.sent), (1, 0), (2, 1), (4, r.segment.val)]
    (inside → d.resident = true → d.printKey = .read → d.lowBlock ≤ b → b ≤ d.highBlock →
      s.handOnce =
        { s with
          link := ⟨some ⟨bed, r.segment, b, d.base + b⟩, bed⟩
          stripeOut := s.stripeOut ++
            [.start (BitVec.ofNat 24 (b % 256 + 256 * r.segment.val + 65536 * bedCode bed))] }) ∧
    (inside → d.resident = true → d.printKey = .read → ¬ (d.lowBlock ≤ b ∧ b ≤ d.highBlock) →
      s.handOnce = refusedAt (.block b)) ∧
    (¬ inside → d.resident = true → d.printKey = .read →
      s.handOnce = refusedAt (.edge (match r.dir with | .asc => 255 | .desc => 0)))

/-- The completion of a send puts the block's words and an END on the link, raises the run's blocks
sent, its next step and the session's blocks sent, ends the run COMPLETE at its count, and hands the
link again; IDLE follows where the link stays free. STRIPE_CUT ends the bed's run CUT, a block of it being
sent ending after the words already out with a CUT and not counted, is answered NONE without a run and
NOT_FOUND for no bed. That a block's words are put out at its completion is the model's choice, and how
many words of a cut block had gone out is a free value (log 5). -/
def Obligations.SendCompletesOrIsCut : Prop :=
  ∀ s : State,
    (s.link.sending = none → exec .stripeSendComplete s = .next s) ∧
    (∀ (k : Sending) (r : StripeRun), s.link.sending = some k → (s.beds.get k.bed).run = some r →
      let ses := s.beds.get k.bed
      let r2 : StripeRun := { r with sent := r.sent + 1, nextStep := r.nextStep + 1 }
      let sent : State :=
        { s with
          link := { s.link with sending := none }
          stripeOut := s.stripeOut ++ [.data (s.storeBlock k.store), .endMark] }
      let with_ (run : Option StripeRun) : State :=
        { sent with
          beds := s.beds.set k.bed { ses with sent := min 65535 (ses.sent + 1), run := run } }
      (r.sent + 1 ≠ r.count →
        exec .stripeSendComplete s = .next (idleAgain (with_ (some r2)).handLink)) ∧
      (r.sent + 1 = r.count →
        exec .stripeSendComplete s =
          .next (idleAgain ((with_ none).raise (.stripeEnd k.bed)
            [(9, r.sent + 1), (1, 0), (2, 0), (4, r.segment.val)]).handLink))) ∧
    (s.inFrame .print → ∀ sel : Selector,
      (2 ≤ sel.toNat → exec (.stripeCut sel) s = .next (s.finish .print ⟨.notFound, 0⟩ none)) ∧
      ∀ bed : Bed, sel.toNat = bedCode bed →
        ((s.beds.get bed).run = none →
          exec (.stripeCut sel) s = .next (s.finish .print ⟨.none, 0⟩ none)) ∧
        ∀ r, (s.beds.get bed).run = some r →
          ∃ n, n ≤ 1024 ∧
            exec (.stripeCut sel) s =
              .next ((cutAt s bed r n).finish .print (answer .ok [(9, r.sent)]) none))

/-- PRINT_END on an ACTIVE bed: GOOD writes the cure target of R120 and makes the stage PRINTED, FAILED
spoils the garment with PRINT_FAILED, a VOID ticket is answered PASS; the platen goes to TRANSIT and the
session is IDLE. An open run is cut first, as by STRIPE_CUT, and the rest is as on the state the cut
leaves, in which the bed has no run; how many words of a cut block had gone out is a free value (log 5). On
an IDLE bed it is answered BAD_STATE and on none NOT_FOUND. -/
def Obligations.PrintEnd : Prop :=
  ∀ (sel : Selector) (arg : Arg) (s : State), s.inFrame .print →
    let put (u : State) (a : Answer) : Prop :=
      exec (.printEnd sel arg) s = .next (u.finish .print a none)
    (2 ≤ sel.toNat → put s ⟨.notFound, 0⟩) ∧
    ∀ bed : Bed, sel.toNat = bedCode bed →
      let ses := s.beds.get bed
      let p := ses.platen
      (ses.active = false → put s ⟨.badState, 0⟩) ∧
      (∀ r, ses.active = true → ses.run = some r →
        ∃ n, n ≤ 1024 ∧ exec (.printEnd sel arg) s = exec (.printEnd sel arg) (cutAt s bed r n) ∧
          (cutAt s bed r n).inFrame .print ∧
          (cutAt s bed r n).beds.get bed = { ses with run := none } ∧
          (cutAt s bed r n).ticket p = s.ticket p) ∧
      ∀ k : Ticket, ses.active = true → ses.run = none → s.ticket p = some k →
        let ended (x : Ticket) : State :=
          { s with
            platens := s.platens.set p { s.platens.get p with location := .transit, ticket := some x }
            beds := s.beds.set bed ⟨false, 0, 0, 0, 0, none⟩ }
        let row := s.fabric.get k.fabric
        let target :=
          min 65535 (row.cbase + (k.lc * 3 + k.lw * 8) / 64 + (k.applied * row.wet) / 16)
        (k.disposition = .good → k.stage = .printing → arg.getLsbD 0 = false →
          put (ended { k with stage := .printed, cureTarget := some target })
            (answer .ok [(16, target), (14, min 16383 ses.sent), (2, 0)])) ∧
        (k.disposition = .good → arg.getLsbD 0 = true →
          put ((ended { k with disposition := .spoiled, reason := some .printFailed }).raise
              .garmentSpoiled [(6, p.val), (2, 0), (8, k.line.val), (3, 3)])
            (answer .ok [(16, 0), (14, min 16383 ses.sent), (2, 1)])) ∧
        (k.disposition = .void →
          put (ended k) (answer .pass [(16, 0), (14, min 16383 ses.sent), (2, 2)]))

/-! ## The press -/

/-- R129 and R130: ROTATE takes the non-empty list whose turn comes first after the pointers, FIXED the
first in the order of the lists, and none is selected where all are empty. R131 and R132: the platen at
the head of the selected list goes to the chosen head; with every list empty or no head eligible nothing
is granted; and an evaluation repeats until no further grant can be made. The end of an event at the Arbiter,
`settle`, is a grant evaluation and then, for head 0 and after it head 1, the parking of a head that it
leaves FREE with its park timer at a delay of 0 (R142): the class by the park policy, the setpoint that of
the head, or the default of a class that changed, and a PARK posted. -/
def Obligations.SelectionAndGrants : Prop :=
  ∀ s : State,
    (selectList s = none ↔ ∀ l, s.lists.get l = []) ∧
    (∀ l, s.press.mode = .fixed → s.lists.get l ≠ [] →
      (∀ x, listCode x < listCode l → s.lists.get x = []) → selectList s = some l) ∧
    (∀ l, s.press.mode = .rotate → s.lists.get l ≠ [] →
      (∀ x, s.lists.get x ≠ [] → turn s l ≤ turn s x) → selectList s = some l) ∧
    ((∀ h, ¬ Eligible s h) → s.grantEval = s) ∧
    ((∀ l, s.lists.get l = []) → s.grantEval = s) ∧
    (∀ l p rest h, selectList s = some l → s.lists.get l = p :: rest → Picked s (listClass l) h →
      s.grantOnce = afterGrant s l p rest h) ∧
    s.grantEval = s.grantOnce.grantOnce ∧
    s.grantEval.grantOnce = s.grantEval ∧
    (let parks (u : State) (h : HeadId) : State :=
      let d := u.heads.get h
      let c := match u.press.parkPolicy with | .last => d.cls | .default_ => u.press.parkClass
      let sp := if c = d.cls then (u.thermal.get h).setpoint else (u.pass.get c).defSetpoint
      if d.state = .free ∧ d.timer = some ⟨.park, 0⟩ then
        ({ u with
          heads := u.heads.set h { d with state := .parked, cls := c, timer := none }
          thermal := u.thermal.set h { u.thermal.get h with setpoint := sp } }).post h (.park c sp)
      else u
    s.settle = parks (parks s.grantEval .h0) .h1) ∧
    ((∀ h, (s.grantEval.heads.get h).state ≠ .free ∨
        (s.grantEval.heads.get h).timer ≠ some ⟨.park, 0⟩) → s.settle = s.grantEval) ∧
    (∀ h, (∀ l, s.lists.get l = []) → (s.heads.get h).state = .free →
      (s.heads.get h).timer = some ⟨.park, 0⟩ →
      (s.settle.heads.get h).state = .parked ∧ (s.settle.heads.get h).timer = none ∧
        (s.settle.heads.get h).platen = (s.heads.get h).platen)

/-- The merge of a posting into a slot (R133), pending row by posted column; and a slot's contents
after a posting, its notice pending exactly while it is non-empty. That the notice of a slot left empty has
its detail at 0 is the model's choice (log 26). -/
def Obligations.PostingMerges : Prop :=
  ∀ (s : State) (h : HeadId) (p q : PlatenIx) (c e : PassClass) (u v : Nat) (f g : Bool),
    let after (held : Option Assignment) (a : Assignment) (r : Option Assignment) : Prop :=
      (s.heads.get h).mailbox = held →
        s.post h a = (s.modifyHead h fun d => { d with mailbox := r }).setNotice (.assignment h)
          (match r with
            | none => ⟨false, 0⟩
            | some x => ⟨true, packDetail [(3, assignmentCode (some x)), (5, 0), (1, headCode h)]⟩)
    let on : Assignment := .closeOn p c u f
    let on2 : Assignment := .closeOn q e v g
    (∀ a, after none a (some a)) ∧
    after (some on) on2 (some on2) ∧
    after (some on) .release none ∧
    after (some on) (.park e v) (some on) ∧
    after (some on) (.setpoint v) (some (.closeOn p c v f)) ∧
    after (some .release) .release (some .release) ∧
    after (some .release) (.setpoint v) (some .release) ∧
    after (some (.park c u)) on2 (some on2) ∧
    after (some (.park c u)) .release (some .release) ∧
    after (some (.park c u)) (.park e v) (some (.park e v)) ∧
    after (some (.park c u)) (.setpoint v) (some (.park c v)) ∧
    (∀ a, after (some (.setpoint u)) a (some a))

/-- TAKE_ASSIGNMENT returns a present head's pending assignment with all its fields and empties the
slot, marking a CLOSE_ON as taken and, for a RELEASE from a FREE head, starting its park timer and a
grant evaluation; on an empty slot it is answered NONE. That the emptied slot's notice has its detail at 0 is
the model's choice (log 26). -/
def Obligations.TakeAssignment : Prop :=
  ∀ (sel : Selector) (s : State), s.inFrame .press →
    let put (u : State) (a : Answer) : Prop :=
      exec (.takeAssignment sel) s = .next (u.finish .press a none)
    (2 ≤ sel.toNat ∨ (sel = 1 ∧ s.press.headsPresent ≠ 2) → put s ⟨.notFound, 0⟩) ∧
    ∀ h : HeadId, sel.toNat = headCode h → s.present h = true →
      let d := s.heads.get h
      let taken := emptySlot s h
      (d.mailbox = none → put s ⟨.none, 0⟩) ∧
      (∀ p c sp ch, d.mailbox = some (.closeOn p c sp ch) →
        put (taken.modifyHead h fun x => { x with closeOnTaken := true })
          (answer .ok [(16, p.val), (8, sp), (3, 0), (1, classCode c), flag ch, (3, 1)])) ∧
      (∀ c sp, d.mailbox = some (.park c sp) →
        put taken (answer .ok [(16, 0), (8, sp), (3, 0), (1, classCode c), (1, 0), (3, 3)])) ∧
      (∀ sp, d.mailbox = some (.setpoint sp) →
        put taken (answer .ok [(16, 0), (8, sp), (5, 0), (3, 4)])) ∧
      (d.mailbox = some .release → d.state ≠ .free → put taken (answer .ok [(29, 0), (3, 2)])) ∧
      (d.mailbox = some .release → d.state = .free →
        put (taken.modifyHead h fun x =>
            { x with timer := some ⟨.park, s.press.parkDelay * 1000⟩ }).settle
          (answer .ok [(29, 0), (3, 2)]))

/-- PRESS_CLOSED by the head's state: on an ASSIGNED head whose CLOSE_ON has been taken the head is
CLOSED, its sample timer starts and its cycle begins at sample count 0 with the class's base step; it is
NOT_READY while the CLOSE_ON is pending, and LATE or BAD_STATE otherwise, with no effect. -/
def Obligations.PressClosed : Prop :=
  ∀ (sel : Selector) (s : State), s.inFrame .press →
    let put (u : State) (a : Answer) : Prop :=
      exec (.pressClosed sel) s = .next (u.finish .press a none)
    (2 ≤ sel.toNat ∨ (sel = 1 ∧ s.press.headsPresent ≠ 2) → put s ⟨.notFound, 0⟩) ∧
    ∀ h : HeadId, sel.toNat = headCode h → s.present h = true →
      let d := s.heads.get h
      (∀ p, d.state = .assigned → d.closeOnTaken = true → d.platen = some p →
        put { s with
            heads := s.heads.set h
              { d with state := .closed, timer := some ⟨.sample, s.press.sampleTimeout * 100⟩ }
            thermal := s.thermal.set h
              { s.thermal.get h with
                cycle := ⟨true, p, d.cls, 0, .none, (s.pass.get d.cls).baseStep⟩ } }
          ⟨.ok, BitVec.ofNat 32 p.val⟩) ∧
      (d.state = .assigned → d.closeOnTaken = false → put s ⟨.notReady, 0⟩) ∧
      (d.state = .releasing → put s ⟨.late, 0⟩) ∧
      (d.state = .closed → put s ⟨.badState, 0⟩) ∧
      (d.state ≠ .assigned → d.state ≠ .releasing → d.state ≠ .closed →
        put s ⟨if d.late then .late else .badState, 0⟩)

/-- PRESS_SAMPLE on a CLOSED head: the sample timer restarts, the sample is counted, its increment is
added to the credit of the cycle's class, and scorch, completion, the sample limit and the setpoint
stepping are judged in that order; in the other states it is LATE or BAD_STATE and earns nothing. -/
def Obligations.PressSample : Prop :=
  ∀ (sel : Selector) (arg : Arg) (s : State), s.inFrame .press →
    let put (u : State) (a : Answer) : Prop :=
      exec (.pressSample sel arg) s = .next (u.finish .press a none)
    (2 ≤ sel.toNat ∨ (sel = 1 ∧ s.press.headsPresent ≠ 2) → put s ⟨.notFound, 0⟩) ∧
    ∀ h : HeadId, sel.toNat = headCode h → s.present h = true →
      let d := s.heads.get h
      (d.state = .releasing → put s ⟨.late, 0⟩) ∧
      (d.state ≠ .closed → d.state ≠ .releasing →
        put s ⟨if d.late then .late else .badState, 0⟩) ∧
      ∀ k : Ticket, d.state = .closed → s.ticket (s.thermal.get h).cycle.platen = some k →
        let th := s.thermal.get h
        let y := th.cycle
        let p := y.platen
        let row := s.pass.get y.cls
        let t := (arg.extractLsb' 0 8).toNat
        let credit := min 65535 (k.credit y.cls + incrementOf row t)
        let k1 := withCredit k y.cls credit
        let k2 : Ticket := if row.scorchTemp ≤ t then { k1 with scorches := k.scorches + 1 } else k1
        let scorched : Prop := row.scorchTemp ≤ t ∧ row.scorchLimit ≤ k.scorches + 1
        let met : Prop := ∃ g, k.target y.cls = some g ∧ g ≤ credit
        let ended (x : Ticket) (o : PressOutcome) : State :=
          { s with
            platens := s.platens.set p { s.platens.get p with ticket := some x }
            heads := s.heads.set h
              { d with state := .releasing, outcome := o,
                       timer := some ⟨.release, s.press.releaseTimeout * 1000⟩ }
            thermal := s.thermal.set h { th with cycle := ⟨false, 0, .dry, 0, .none, 1⟩ } }
        let spoiled (x : Ticket) (why : SpoilReason) (code : Nat) : State :=
          ((ended { x with disposition := .spoiled, reason := some why } .transit).raise
            .garmentSpoiled [(6, p.val), (2, 0), (8, k.line.val), (3, code)]).post h .release
        let goesOn (sp step : Nat) (dir : MoveDir) : State :=
          { s with
            platens := s.platens.set p { s.platens.get p with ticket := some k2 }
            heads := s.heads.set h { d with timer := some ⟨.sample, s.press.sampleTimeout * 100⟩ }
            thermal := s.thermal.set h
              ⟨sp, { y with samples := y.samples + 1, prevDir := dir, step := step }⟩ }
        let reports (u : State) (sp code : Nat) : Prop :=
          put u (answer .ok [(16, credit), (8, sp), (3, code)])
        (k.disposition = .good → scorched → reports (spoiled k2 .scorched 4) th.setpoint 2) ∧
        (k.disposition = .good → k.stage = cycleFrom y.cls → ¬ scorched → met →
          reports ((ended { k2 with stage := cycleTo y.cls } .transit).post h .release)
            th.setpoint 1) ∧
        (k.disposition = .good → ¬ scorched → ¬ met → row.maxSamples ≤ y.samples + 1 →
          (k.presses + 1 ≤ s.params.repressLimit →
            reports ((ended { k2 with presses := k.presses + 1 } .return_).post h .release)
              th.setpoint 3) ∧
          (s.params.repressLimit < k.presses + 1 →
            reports (spoiled { k2 with presses := k.presses + 1 } (shortReason y.cls)
              (shortCode y.cls)) th.setpoint 4)) ∧
        (¬ scorched → ¬ met → y.samples + 1 < row.maxSamples →
          ((row.goal : Int) - row.band ≤ t → t ≤ row.goal + row.band →
            reports (goesOn th.setpoint row.baseStep .hold) th.setpoint 0) ∧
          ∀ (dir : MoveDir),
            ((dir = .up ∧ (t : Int) < row.goal - row.band) ∨ (dir = .down ∧ row.goal + row.band < t)) →
            let step := if y.prevDir = dir ∧ row.multiStep = true then min (y.step + 1) 15
                        else row.baseStep
            let sp := clamp row.defSetpoint row.ceiling
              (if dir = .up then th.setpoint + step else th.setpoint - step)
            (sp = th.setpoint → reports (goesOn sp step dir) sp 0) ∧
            (sp ≠ th.setpoint → reports ((goesOn sp step dir).post h (.setpoint sp)) sp 0))

/-- PRESS_OPENED by the head's state: the mailbox is emptied, the platen goes by the recorded outcome,
by the judgement of the early opening, or back to its origin list, and the head leaves it, to DECLINING
or FREE, followed by a grant evaluation; elsewhere LATE or BAD_STATE with no effect. That the emptied slot's
notice has its detail at 0 is the model's choice (log 26). -/
def Obligations.PressOpened : Prop :=
  ∀ (sel : Selector) (s : State), s.inFrame .press →
    let put (u : State) (a : Answer) : Prop :=
      exec (.pressOpened sel) s = .next (u.finish .press a none)
    (2 ≤ sel.toNat ∨ (sel = 1 ∧ s.press.headsPresent ≠ 2) → put s ⟨.notFound, 0⟩) ∧
    ∀ h : HeadId, sel.toNat = headCode h → s.present h = true →
      let d := s.heads.get h
      (d.state ≠ .assigned → d.state ≠ .releasing → d.state ≠ .closed →
        put s ⟨if d.late then .late else .badState, 0⟩) ∧
      ∀ p, d.platen = some p →
        let opened (u : State) (o : PressOutcome) : Prop :=
          put (freed (goesBy (emptySlot u h) o d.origin p) h).settle
            (answer .ok [(6, p.val), (1, outcomeCode o)])
        (d.state = .releasing → opened s d.outcome) ∧
        (d.state = .assigned → opened s .return_) ∧
        ∀ k : Ticket, d.state = .closed → (s.thermal.get h).cycle.platen = p →
          s.ticket p = some k → k.disposition = .good →
          let th := s.thermal.get h
          let c := th.cycle.cls
          let met : Prop := ∃ g, k.target c = some g ∧ g ≤ k.credit c
          let judged (x : Ticket) : State :=
            { s with
              platens := s.platens.set p { s.platens.get p with ticket := some x }
              thermal := s.thermal.set h { th with cycle := ⟨false, 0, .dry, 0, .none, 1⟩ } }
          (k.stage = cycleFrom c → met → opened (judged { k with stage := cycleTo c }) .transit) ∧
          (¬ met → k.presses + 1 ≤ s.params.repressLimit →
            opened (judged { k with presses := k.presses + 1 }) .return_) ∧
          (¬ met → s.params.repressLimit < k.presses + 1 →
            opened ((judged { k with presses := k.presses + 1, disposition := .spoiled,
                                     reason := some (shortReason c) }).raise .garmentSpoiled
              [(6, p.val), (2, 0), (8, k.line.val), (3, shortCode c)]) .transit)

/-- HEAD_DECLINE by the head's state, answered OK with the state after the command; RESTORE_HEAD on an
ISOLATED head frees it, or makes it DECLINING where decline pending is set, with a grant evaluation, and
is refused BAD_STATE on a present head in another state. That the notice of a slot emptied by HEAD_DECLINE
has its detail at 0 is the model's choice (log 26). -/
def Obligations.DeclineAndRestoreHead : Prop :=
  ∀ (sel : Selector) (arg : Arg) (s : State),
    let down (u : State) (code : Nat) : Prop :=
      exec (.headDecline sel arg) s = .next (u.finish .press (answer .ok [(3, code)]) none)
    (s.inFrame .press → 2 ≤ sel.toNat ∨ (sel = 1 ∧ s.press.headsPresent ≠ 2) →
      exec (.headDecline sel arg) s = .next (s.finish .press ⟨.notFound, 0⟩ none)) ∧
    (s.inFrame .order → 2 ≤ sel.toNat ∨ (sel = 1 ∧ s.press.headsPresent ≠ 2) →
      exec (.restoreHead sel) s = .next (s.finish .order ⟨.notFound, 0⟩ none)) ∧
    ∀ h : HeadId, sel.toNat = headCode h → s.present h = true →
      let d := s.heads.get h
      let out : State := s.modifyHead h fun x =>
        { x with state := .declining, declinePending := false, timer := none }
      let onAgain : State := s.modifyHead h fun x =>
        { x with state := .free,
                 timer := if x.mailbox = some .release then none
                          else some ⟨.park, s.press.parkDelay * 1000⟩ }
      (s.inFrame .press →
        (arg.getLsbD 0 = true → d.state = .free ∨ d.state = .parked →
          ((∃ c sp, d.mailbox = some (.park c sp)) ∨ (∃ sp, d.mailbox = some (.setpoint sp)) →
            down (emptySlot out h) 6) ∧
          (d.mailbox = none ∨ d.mailbox = some .release → down out 6)) ∧
        (arg.getLsbD 0 = true → d.state = .declining → down s 6) ∧
        (arg.getLsbD 0 = true → d.state ≠ .free → d.state ≠ .parked → d.state ≠ .declining →
          down (s.modifyHead h fun x => { x with declinePending := true }) (headStateCode d.state)) ∧
        (arg.getLsbD 0 = false → d.state = .declining →
          down onAgain.settle (headStateCode (onAgain.settle.heads.get h).state)) ∧
        (arg.getLsbD 0 = false → d.state ≠ .declining →
          down (s.modifyHead h fun x => { x with declinePending := false })
            (headStateCode d.state))) ∧
      (s.inFrame .order →
        (d.state = .isolated →
          exec (.restoreHead sel) s = .next ((freed s h).settle.finish .order ⟨.ok, 0⟩ none)) ∧
        (d.state ≠ .isolated →
          exec (.restoreHead sel) s = .next (s.finish .order ⟨.badState, 0⟩ none)))

/-- That an expiry row acts whenever the head's timer of its kind runs, whatever time is left, and does
nothing where that timer is not running, is the model's choice (log 2). A close or sample timeout counts a head
retry on a GOOD ticket, spoils it above the limit and returns the platen otherwise, empties the mailbox,
sets the late mark and isolates the head or frees it; a release timeout sends the platen by the recorded
outcome; a park expiry parks the head by the park policy and posts a PARK. That an emptied slot's notice has
its detail at 0 is the model's choice (log 26). -/
def Obligations.TimerExpiries : Prop :=
  ∀ (h : HeadId) (s : State),
    let d := s.heads.get h
    let runs (kind : TimerKind) : Prop := ∃ n, d.timer = some ⟨kind, n⟩
    (¬ runs .close → exec (.closeTimerExpiry h) s = .next s) ∧
    (¬ runs .sample → exec (.sampleTimerExpiry h) s = .next s) ∧
    (¬ runs .release → exec (.releaseTimerExpiry h) s = .next s) ∧
    (¬ runs .park → exec (.parkTimerExpiry h) s = .next s) ∧
    (runs .park →
      let c := match s.press.parkPolicy with | .last => d.cls | .default_ => s.press.parkClass
      let sp := if c = d.cls then (s.thermal.get h).setpoint else (s.pass.get c).defSetpoint
      exec (.parkTimerExpiry h) s =
        .next (({ s with
          heads := s.heads.set h { d with state := .parked, cls := c, timer := none }
          thermal := s.thermal.set h { s.thermal.get h with setpoint := sp } }).post h
            (.park c sp)).grantEval) ∧
    ∀ p, d.platen = some p →
      let leaves (u : State) (code : Nat) : State :=
        let late := u.modifyHead h fun x => { x with late := true }
        (if s.press.isolation then
          (late.modifyHead h fun x =>
            { x with state := .isolated, platen := none, origin := .cureRush, outcome := .transit,
                     closeOnTaken := false, timer := none }).raise .headIsolated
            [(6, p.val), (2, 0), (1, headCode h), (2, code)]
        else freed late h).settle
      (runs .release →
        exec (.releaseTimerExpiry h) s =
          .next (leaves (if s.press.isolation then emptySlot (goesBy s d.outcome d.origin p) h
            else goesBy s d.outcome d.origin p) 2)) ∧
      ∀ k : Ticket, s.ticket p = some k →
        let retries := min 255 (k.headRetries + 1)
        let idle : State :=
          if d.state = .closed then
            { s with
              thermal := s.thermal.set h
                { s.thermal.get h with cycle := ⟨false, 0, .dry, 0, .none, 1⟩ } }
          else s
        let ticketed (x : Ticket) : State :=
          { idle with platens := s.platens.set p { s.platens.get p with ticket := some x } }
        let expires (u : State) : Prop :=
          (runs .close → exec (.closeTimerExpiry h) s = .next (leaves (emptySlot u h) 0)) ∧
          (runs .sample → exec (.sampleTimerExpiry h) s = .next (leaves (emptySlot u h) 1))
        (k.disposition = .good → s.press.retryLimit = 0 ∨ retries ≤ s.press.retryLimit →
          expires (goesBy (ticketed { k with headRetries := retries }) .return_ d.origin p)) ∧
        (k.disposition = .good → s.press.retryLimit ≠ 0 → s.press.retryLimit < retries →
          expires (goesBy ((ticketed
            { k with headRetries := retries, disposition := .spoiled,
                     reason := some .headRetries }).raise .garmentSpoiled
              [(6, p.val), (2, 0), (8, k.line.val), (3, 6)]) .transit d.origin p)) ∧
        (k.disposition ≠ .good → expires (goesBy idle .return_ d.origin p))

/-- READ_BED, READ_PRESS and READ_THERMAL change no state and return the groups of R123, R145 and R164 as
they stand: a bed field naming none, a head that is not present, a selector naming no group and a LIST
position at or beyond the list's length are answered NOT_FOUND. The second word of a LIST answered
NOT_FOUND and its length at bit 0 (log 7), the head field of 1 bit (log 14), the time left of 13 bits
(log 20), and a platen read as its number, the class of MAILBOX as 1 bit and each absent field as 0
(log 24), are the model's. -/
def Obligations.ReadBedPressAndThermal : Prop :=
  (∀ (q : Port) (sel : Selector) (arg : Arg) (s : State), q = .order ∨ q = .print → s.inFrame q →
     let n := (arg.extractLsb' 0 8).toNat
     let answers (a : Answer) : Prop := exec (.readBed q sel arg) s = .next (s.finish q a none)
     (2 ≤ n ∨ 3 ≤ sel.toNat → answers ⟨.notFound, 0⟩) ∧
     ∀ bed : Bed, n = bedCode bed →
       let k := s.beds.get bed
       (sel = 0 → arg.getLsbD 31 = false →
         answers (answer .ok [flag k.active, (6, k.platen.val), (6, k.artwork.val), (8, k.line.val)])) ∧
       (sel = 0 → arg.getLsbD 31 = true → answers (answer .ok [(16, k.sent)])) ∧
       (sel = 1 → k.run = none → answers ⟨.ok, 0⟩) ∧
       (∀ r, sel = 1 → k.run = some r → arg.getLsbD 31 = false →
         answers (answer .ok [(1, 1), (4, r.segment.val), (1, runDirCode r.dir), (8, r.first),
           (9, r.count), (9, r.sent)])) ∧
       (sel = 2 → arg.getLsbD 31 = false →
         answers (answer .ok [(2, match s.link.sending with
           | none => 0 | some x => bedCode x.bed + 1), (1, bedCode s.link.lastServed)])) ∧
       (sel = 1 ∨ sel = 2 → arg.getLsbD 31 = true → answers ⟨.ok, 0⟩)) ∧
  (∀ (q : Port) (sel : Selector) (arg : Arg) (s : State), q = .order ∨ q = .press → s.inFrame q →
     let press (a : Answer) : Prop := exec (.readPress q sel arg) s = .next (s.finish q a none)
     let therm (a : Answer) : Prop := exec (.readThermal q sel arg) s = .next (s.finish q a none)
     (5 ≤ sel.toNat → press ⟨.notFound, 0⟩) ∧
     (2 ≤ sel.toNat → therm ⟨.notFound, 0⟩) ∧
     (sel = 4 → press ⟨.ok, groupWord arg [(1, arbModeCode s.press.mode), (2, level1Code s.level1),
       (1, level2Code s.level2)]⟩) ∧
     (∀ l, sel = 3 → (arg.extractLsb' 0 2).toNat = listCode l →
       let row := s.lists.get l
       let pos := (arg.extractLsb' 2 6).toNat
       (∀ p, row[pos]? = some p → press ⟨.ok, groupWord arg [(6, p.val), (6, row.length)]⟩) ∧
       (row.length ≤ pos → press ⟨.notFound, groupWord arg [(6, row.length)]⟩)) ∧
     ∀ h : HeadId, (arg.extractLsb' 0 1).toNat = headCode h →
       let d := s.heads.get h
       let th := s.thermal.get h
       (s.present h = false → sel.toNat < 3 → press ⟨.notFound, 0⟩) ∧
       (s.present h = false → therm ⟨.notFound, 0⟩) ∧
       (s.present h = true →
         (sel = 0 → press ⟨.ok, groupWord arg [(1, 1), (3, headStateCode d.state), (1, classCode d.cls),
           (6, match d.platen with | some p => p.val | none => 0), (2, listCode d.origin),
           (1, outcomeCode d.outcome), flag d.declinePending, flag d.late, (3, timerCode d.timer)]⟩) ∧
         (sel = 1 → d.mailbox = none ∨ d.mailbox = some .release →
           press ⟨.ok, groupWord arg [(3, assignmentCode d.mailbox), flag d.closeOnTaken]⟩) ∧
         (∀ p c sp ch, sel = 1 → d.mailbox = some (.closeOn p c sp ch) →
           press ⟨.ok, groupWord arg [(3, 1), flag d.closeOnTaken, (6, p.val), (1, classCode c), (8, sp),
             flag ch]⟩) ∧
         (∀ c sp, sel = 1 → d.mailbox = some (.park c sp) →
           press ⟨.ok, groupWord arg [(3, 3), flag d.closeOnTaken, (6, 0), (1, classCode c), (8, sp),
             (1, 0)]⟩) ∧
         (∀ sp, sel = 1 → d.mailbox = some (.setpoint sp) →
           press ⟨.ok, groupWord arg [(3, 4), flag d.closeOnTaken, (6, 0), (1, 0), (8, sp), (1, 0)]⟩) ∧
         (sel = 2 → d.timer = none → press ⟨.ok, 0⟩) ∧
         (∀ kind n, sel = 2 → d.timer = some ⟨kind, n⟩ →
           press ⟨.ok, groupWord arg [(3, timerCode d.timer), (13, (n + 99) / 100)]⟩) ∧
         (sel = 0 → therm ⟨.ok, groupWord arg [(1, classCode d.cls), (8, th.setpoint),
           (8, (s.pass.get d.cls).defSetpoint), (8, (s.pass.get d.cls).ceiling)]⟩) ∧
         (sel = 1 → therm ⟨.ok, groupWord arg [flag th.cycle.active, (6, th.cycle.platen.val),
           (1, classCode th.cycle.cls), (10, th.cycle.samples), (2, moveDirCode th.cycle.prevDir),
           (4, th.cycle.step)]⟩)))

/-! ## Configuration -/

/-- CONFIG's answers where it writes nothing: NOT_FOUND for a selector naming no parameter and for a
row beyond the table's rows, the current value for a read, and LOCKED for a write once commissioning is
closed. Every parameter of R174's table has the number, the range and the value that the table gives it. -/
def Obligations.ConfigReadsAndRefusals : Prop :=
  ∀ (sel : Selector) (arg : Arg) (s : State), s.inFrame .order →
    let r := (arg.extractLsb' 16 8).toNat
    let table := (sel.extractLsb' 4 3).toNat
    let number := (sel.extractLsb' 0 4).toNat
    let named : Prop := (table = 0 ∧ number < 5) ∨ (table = 1 ∧ number < 9) ∨
      (table = 2 ∧ number < 11) ∨ (table = 3 ∧ number < 11)
    let reads (a : Answer) : Prop := exec (.configRead sel arg) s = .next (s.finish .order a none)
    let writes (a : Answer) : Prop := exec (.configWrite sel arg) s = .next (s.finish .order a none)
    (∀ e ∈ lineTable s.params, paramOf e.sel = some (.flat (.line e.param)) ∧
      e.param.range = (e.low, e.high) ∧ s.params.value e.param = e.value) ∧
    (∀ i, ∀ e ∈ fabricTable (s.fabric.get i), paramOf e.sel = some (.row (.fabric e.param)) ∧
      e.param.range = (e.low, e.high) ∧ (s.fabric.get i).value e.param = e.value) ∧
    (∀ e ∈ pressTable s.press, paramOf e.sel = some (.flat (.press e.param)) ∧
      e.param.range = (e.low, e.high) ∧ s.press.value e.param = e.value) ∧
    (∀ c, ∀ e ∈ passTable (s.pass.get c), paramOf e.sel = some (.row (.pass e.param)) ∧
      e.param.range = (e.low, e.high) ∧ (s.pass.get c).value e.param = e.value) ∧
    (¬ named → reads ⟨.notFound, 0⟩ ∧ writes ⟨.notFound, 0⟩) ∧
    (named → s.commissioningOpen = false → writes ⟨.locked, 0⟩) ∧
    (table = 1 → number < 9 → 8 ≤ r → reads ⟨.notFound, 0⟩) ∧
    (table = 3 → number < 11 → 2 ≤ r → reads ⟨.notFound, 0⟩) ∧
    (table = 1 → number < 9 → 8 ≤ r → s.commissioningOpen = true →
      (s.ports.get .order).ext = none → writes ⟨.notFound, 0⟩) ∧
    (table = 3 → number < 11 → 2 ≤ r → s.commissioningOpen = true →
      (s.ports.get .order).ext = none → writes ⟨.notFound, 0⟩) ∧
    (∀ m, table = 1 → number < 9 → s.commissioningOpen = true → (s.ports.get .order).ext = some m →
      m = 0 ∨ 256 ≤ m.toNat → writes ⟨.notFound, 0⟩) ∧
    (∀ m, table = 3 → number < 11 → s.commissioningOpen = true → (s.ports.get .order).ext = some m →
      m = 0 ∨ 4 ≤ m.toNat → writes ⟨.notFound, 0⟩) ∧
    (∀ k, paramOf sel = some (.flat (.line k)) → reads (answer .ok [(16, s.params.value k)])) ∧
    (∀ k, paramOf sel = some (.flat (.press k)) → reads (answer .ok [(16, s.press.value k)])) ∧
    (∀ (k : FabricParam) (i : FabricIx), paramOf sel = some (.row (.fabric k)) → r = i.val →
      reads (answer .ok [(16, (s.fabric.get i).value k)])) ∧
    (∀ (k : PassParam) (c : PassClass), paramOf sel = some (.row (.pass k)) → r = classCode c →
      reads (answer .ok [(16, (s.pass.get c).value k)]))

/-- A CONFIG write, while commissioning is OPEN, to a parameter of a table without rows adopts the value
clamped into its range, CLAMPED where that differs; a lowered platen count is refused IN_USE while a
platen it excludes carries a ticket or stands at a station (R40), and heads present 1 while head 1 is
at work (R127). Heads present 1 written while head 1 is not present leaves it so. A value of its range put
into a parameter is read back from it, and no other parameter's value changes. That the notice of the slot
emptied has its detail at 0 is the model's choice (log 26). -/
def Obligations.ConfigWriteWithoutRows : Prop :=
  ∀ (sel : Selector) (arg : Arg) (s : State), s.inFrame .order → s.commissioningOpen = true →
    let n := (arg.extractLsb' 0 16).toNat
    let put (u : State) (x : Nat) : Prop :=
      exec (.configWrite sel arg) s =
        .next (u.finish .order (answer (if x = n then .ok else .clamped) [(16, x)]) none)
    let inUse : Prop := exec (.configWrite sel arg) s = .next (s.finish .order ⟨.inUse, 0⟩ none)
    (∀ (k : LineParam) (x : Nat), k.range.1 ≤ x → x ≤ k.range.2 →
      ∀ j, (s.params.put k x).value j = if j = k then x else s.params.value j) ∧
    (∀ (k : PressParam) (x : Nat), k.range.1 ≤ x → x ≤ k.range.2 →
      ∀ j, (s.press.put k x).value j = if j = k then x else s.press.value j) ∧
    (∀ k, paramOf sel = some (.flat (.line k)) → k ≠ .platenCount →
      let x := clamp k.range.1 k.range.2 n
      put { s with params := s.params.put k x } x) ∧
    (∀ k, paramOf sel = some (.flat (.press k)) → k ≠ .headsPresent →
      let x := clamp k.range.1 k.range.2 n
      put { s with press := s.press.put k x } x) ∧
    (paramOf sel = some (.flat (.line .platenCount)) →
      let x := clamp 1 48 n
      let held : Prop := ∃ i : PlatenIx, x ≤ i.val ∧ i.val < s.params.platenCount ∧
        (s.ticket i ≠ none ∨ (s.location i ≠ .loadZone ∧ s.location i ≠ .transit))
      (held → inUse) ∧
      (¬ held → ∃ t,
        exec (.configWrite sel arg) s =
          .next (({ s with params := { s.params with platenCount := x }, platens := t }).finish .order
            (answer (if x = n then .ok else .clamped) [(16, x)]) none) ∧
        ∀ i : PlatenIx, t.get i =
          if x ≤ i.val then { s.platens.get i with location := .transit, misroutes := 0 }
          else s.platens.get i)) ∧
    (paramOf sel = some (.flat (.press .headsPresent)) →
      let d := s.heads.h1
      (n ≤ 1 → s.press.headsPresent = 2 → d.state ≠ .free → d.state ≠ .parked → d.state ≠ .isolated →
        inUse) ∧
      (n ≤ 1 →
        s.press.headsPresent ≠ 2 ∨ d.state = .free ∨ d.state = .parked ∨ d.state = .isolated →
        put (emptySlot { s with
          press := { s.press with headsPresent := 1 }
          heads := { s.heads with h1 := { d with
            state := .free, timer := none, declinePending := false, late := false } } } .h1) 1) ∧
      (2 ≤ n → s.press.headsPresent = 2 → put s 2) ∧
      (2 ≤ n → s.press.headsPresent ≠ 2 →
        put ({ s with
          press := { s.press with headsPresent := 2 }
          heads := { s.heads with h1 := { d with
            state := .free, cls := .cure,
            timer := if d.mailbox = some Assignment.release then none
                     else some ⟨.park, s.press.parkDelay * 1000⟩ } }
          thermal := { s.thermal with h1 := { s.thermal.h1 with
            setpoint := s.pass.cure.defSetpoint } } }).settle 2))

/-- A CONFIG write, while commissioning is OPEN, to rows of the fabric class table or the pass class
table: without a valid extension word the argument's row, with one every row that it masks. Each row
adopts the value clamped into the parameter's range and held to that row's own cross-constraints; a
changed setpoint window re-clamps the setpoints of the heads in that class and posts SETPOINT where one
changes, the head's ASSIGNMENT notice then pending with what the slot holds (R134, R150). A value of its
range put into a parameter is read back from it, and no other parameter's value changes. The answer carries the lowest named row's value, CLAMPED where any row's differs. -/
def Obligations.ConfigWriteToRows : Prop :=
  ∀ (sel : Selector) (arg : Arg) (s : State), s.inFrame .order → s.commissioningOpen = true →
    let n := (arg.extractLsb' 0 16).toNat
    let r := (arg.extractLsb' 16 8).toNat
    let named (rows i : Nat) : Prop := i < rows ∧ match (s.ports.get .order).ext with
      | none => r = i
      | some m => m.toNat < 2 ^ rows ∧ m.getLsbD i = true
    (∀ (v : FabricRow) (k : FabricParam) (x : Nat), k.range.1 ≤ x → x ≤ k.range.2 →
      ∀ j, (v.put k x).value j = if j = k then x else v.value j) ∧
    (∀ (v : PassRow) (k : PassParam) (x : Nat), k.range.1 ≤ x → x ≤ k.range.2 →
      ∀ j, (v.put k x).value j = if j = k then x else v.value j) ∧
    (∀ (k : FabricParam) (low : FabricIx), paramOf sel = some (.row (.fabric k)) → named 8 low.val →
      (∀ j : FabricIx, named 8 j.val → low ≤ j) →
      let x := clamp k.range.1 k.range.2 n
      let adopted (i : FabricIx) : Nat := match k with
        | .dmin => min x (s.fabric.get i).dmax
        | .dmax => max x (s.fabric.get i).dmin
        | _ => x
      ∃ (t : Table FabricRow 8) (res : Result),
        exec (.configWrite sel arg) s =
          .next (({ s with fabric := t }).finish .order (answer res [(16, adopted low)]) none) ∧
        ((∀ i : FabricIx, named 8 i.val → adopted i = n) → res = .ok) ∧
        (∀ i : FabricIx, named 8 i.val → adopted i ≠ n → res = .clamped) ∧
        ∀ i : FabricIx,
          (named 8 i.val → t.get i = (s.fabric.get i).put k (adopted i)) ∧
          (¬ named 8 i.val → t.get i = s.fabric.get i)) ∧
    (∀ (k : PassParam) (low : PassClass), paramOf sel = some (.row (.pass k)) →
      named 2 (classCode low) → (∀ e, named 2 (classCode e) → classCode low ≤ classCode e) →
      let x := clamp k.range.1 k.range.2 n
      let adopted (c : PassClass) : Nat := match k with
        | .defSetpoint => min x (s.pass.get c).ceiling
        | .ceiling => max x (s.pass.get c).defSetpoint
        | .tb => min x ((s.pass.get c).scorchTemp - 10)
        | .scorchTemp => max x ((s.pass.get c).tb + 10)
        | _ => x
      let window (c : PassClass) : Prop := named 2 (classCode c) ∧
        ((k = .defSetpoint ∧ adopted c ≠ (s.pass.get c).defSetpoint) ∨
          (k = .ceiling ∧ adopted c ≠ (s.pass.get c).ceiling))
      ∃ (t : State) (res : Result),
        exec (.configWrite sel arg) s =
          .next (t.finish .order (answer res [(16, adopted low)]) none) ∧
        ((∀ c, named 2 (classCode c) → adopted c = n) → res = .ok) ∧
        (∀ c, named 2 (classCode c) → adopted c ≠ n → res = .clamped) ∧
        (∀ c,
          (named 2 (classCode c) → t.pass.get c = (s.pass.get c).put k (adopted c)) ∧
          (¬ named 2 (classCode c) → t.pass.get c = s.pass.get c)) ∧
        (∀ h,
          let d := s.heads.get h
          let sp := (s.thermal.get h).setpoint
          let sp2 := clamp (t.pass.get d.cls).defSetpoint (t.pass.get d.cls).ceiling sp
          (window d.cls → s.present h = true → sp2 ≠ sp →
            t.thermal.get h = { s.thermal.get h with setpoint := sp2 } ∧
            t.heads.get h = { d with mailbox := mergePost d.mailbox (.setpoint sp2) } ∧
            t.notice (.assignment h) =
              ⟨true, packDetail [(3, assignmentCode (mergePost d.mailbox (.setpoint sp2))), (5, 0),
                (1, headCode h)]⟩) ∧
          (¬ window d.cls ∨ s.present h = false ∨ sp2 = sp →
            t.thermal.get h = s.thermal.get h ∧ t.heads.get h = d ∧
            t.notice (.assignment h) = s.notice (.assignment h))) ∧
        (∀ q, q ≠ .press → t.ports.get q = s.ports.get q) ∧
        (∀ j : Fin 8, 1 < j → (t.ports.get .press).notices.get j = (s.ports.get .press).notices.get j) ∧
        t.params = s.params ∧ t.fabric = s.fabric ∧ t.press = s.press ∧ t.lines = s.lines ∧
        t.platens = s.platens ∧ t.artworks = s.artworks ∧ t.lists = s.lists)

/-! ## Commissioning and resets -/

/-- CLOSE_COMMISSIONING sets commissioning CLOSED, answered with 1 when it was OPEN. LINE_CLEAR empties
the order book, the tickets, the platens' locations and queues, the artworks' counts, the beds, the
press lists and the cycles, frees the heads at work, raises LINE_CLEARED on all four ports with the new
line-clear count, and keeps the configuration, the artworks, the faults, the load run and the store. A
head freed with no RELEASE pending starts its park timer, and with a park delay of 0 it parks within the
command by the park policy and posts a PARK (R131, R142); that it then takes the class and setpoint of
R142, where R146, R151 and R165 keep both, is the model's choice (log 23). How many words of a cut block had gone out is a
free value (log 5). -/
def Obligations.CloseCommissioningAndLineClear : Prop :=
  ∀ s : State, s.inFrame .order →
    exec .closeCommissioning s =
      .next (({ s with commissioningOpen := false }).finish .order
        ⟨.ok, if s.commissioningOpen then 1 else 0⟩ none) ∧
    let count := (s.lineClears + 1) % 256
    ∃ t : State, exec .lineClear s = .next (t.finish .order ⟨.ok, BitVec.ofNat 32 count⟩ none) ∧
      t.lineClears = count ∧ t.commissioningOpen = s.commissioningOpen ∧
      (∀ i, t.lines.get i = OrderLine.free) ∧ t.age = [] ∧
      (∀ p, t.platens.get p = ⟨.transit, none, 0⟩) ∧
      t.pretreatQueue = [] ∧ t.printQueue = [] ∧ t.slot = none ∧
      (∀ a, t.artworks.get a = { s.artworks.get a with lines := 0, tickets := 0 }) ∧
      (∀ bed, t.beds.get bed = ⟨false, 0, 0, 0, 0, none⟩) ∧
      t.link = ⟨none, s.link.lastServed⟩ ∧
      (s.link.sending = none → t.stripeOut = s.stripeOut) ∧
      (∀ k, s.link.sending = some k → ∃ n, n ≤ 1024 ∧
        t.stripeOut = s.stripeOut ++ [.data ((s.storeBlock k.store).take n), .cut, .idle]) ∧
      (∀ l, t.lists.get l = []) ∧ t.level1 = s.level1 ∧ t.level2 = s.level2 ∧
      t.params = s.params ∧ t.fabric = s.fabric ∧ t.press = s.press ∧ t.pass = s.pass ∧
      t.faults = s.faults ∧ t.loadRun = s.loadRun ∧ t.loadBlock = s.loadBlock ∧ t.store = s.store ∧
      t.powerOns = s.powerOns ∧ t.engine = s.engine ∧
      (∀ h,
        let d := s.heads.get h
        let sp := (s.thermal.get h).setpoint
        let still : Cycle := ⟨false, 0, .dry, 0, .none, 1⟩
        (d.state ≠ .assigned → d.state ≠ .closed → d.state ≠ .releasing →
          t.heads.get h = { d with late := false } ∧ t.thermal.get h = ⟨sp, still⟩) ∧
        (d.state = .assigned ∨ d.state = .closed ∨ d.state = .releasing →
          let slot : Option Assignment := match d.mailbox with
            | some (.closeOn _ _ _ _) => none
            | _ => some .release
          let left : Head :=
            { state := if d.declinePending then .declining else .free
              cls := d.cls
              platen := none
              origin := .cureRush
              outcome := .transit
              declinePending := false
              late := false
              closeOnTaken := false
              timer := if d.declinePending = true ∨ slot = some .release then none
                       else some ⟨.park, s.press.parkDelay * 1000⟩
              mailbox := slot }
          let parks : Prop := d.declinePending = false ∧ slot = none ∧ s.press.parkDelay = 0
          let c := match s.press.parkPolicy with | .last => d.cls | .default_ => s.press.parkClass
          let sp2 := if c = d.cls then sp else (s.pass.get c).defSetpoint
          (¬ parks → t.heads.get h = left ∧ t.thermal.get h = ⟨sp, still⟩) ∧
          (parks →
            t.heads.get h =
              { left with state := .parked, cls := c, timer := none, mailbox := some (.park c sp2) } ∧
            t.thermal.get h = ⟨sp2, still⟩))) ∧
      (∀ q, t.notice (.lineCleared q) = ⟨true, packDetail [(8, count)]⟩ ∧
        (t.ports.get q).ext = (s.ports.get q).ext ∧ (t.ports.get q).reply = (s.ports.get q).reply ∧
        (t.ports.get q).mask = (s.ports.get q).mask ∧
        ∀ j : Fin 8, (NoticeKind.lineCleared q).index ≠ j → ¬ (q = .press ∧ j < 2) →
          (t.ports.get q).notices.get j = (s.ports.get q).notices.get j)

/-- R181, R37 and R56: full reset, by the pin or by power-on, sets every port to its full-reset values,
leaves no notice and no attention, opens commissioning, sets the line-clear count to 0, and sets every
platen, artwork, line and parameter to its full-reset value; the store stands after a reset by the
pin. The model's own: the select level kept (log 3), the power-on count and the emptied list of written
blocks (logs 4 and 21), the mask bits of 1 for enabled kinds (log 25), and the record of the stripe link, in
which how many words of a cut block had gone out is a free value (log 5). -/
def Obligations.FullReset : Prop :=
  ∀ (cause : ResetCause) (s : State), ∃ t, exec (.fullReset cause) s = .next t ∧
    (∀ q, (t.ports.get q).receiver = none ∧ (t.ports.get q).sent = none ∧
      (t.ports.get q).driven = [] ∧
      (t.ports.get q).selectAsserted = (s.ports.get q).selectAsserted ∧
      (t.ports.get q).reply = ⟨false, .none, .none, 0⟩ ∧ (t.ports.get q).ext = none ∧
      (∀ j : Fin 8, (t.ports.get q).notices.get j = ⟨false, 0⟩) ∧
      (t.ports.get q).mask =
        (match q with | .order => 0xFF#8 | .pretreat => 0x03#8 | .print => 0x1F#8 | .press => 0x07#8) ∧
      t.attention q = false) ∧
    t.commissioningOpen = true ∧ t.lineClears = 0 ∧
    t.params = ⟨.rushFirst, 24, 20, 1, 1⟩ ∧
    (∀ p, t.platens.get p = ⟨.transit, none, 0⟩) ∧
    t.pretreatQueue = [] ∧ t.printQueue = [] ∧ t.slot = none ∧
    (∀ a, t.artworks.get a = Artwork.free ∧ (t.artworks.get a).state = .free ∧
      (t.artworks.get a).tickets = 0) ∧
    (∀ i, t.lines.get i = OrderLine.free) ∧ t.age = [] ∧
    (∀ side, (t.faults.get side).frozen = false) ∧ t.loadRun = none ∧ t.loadBlock = none ∧ t.engine = Engine.idle ∧
    (∀ r, t.fabric.get r = ⟨150, 16, 100, 350, 15, 40, 40, 9000, 20⟩) ∧
    (∀ bed, t.beds.get bed = ⟨false, 0, 0, 0, 0, none⟩) ∧ t.link = ⟨none, .b⟩ ∧
    (s.link.sending = none → t.stripeOut = s.stripeOut) ∧
    (∀ k, s.link.sending = some k → ∃ n, n ≤ 1024 ∧
      t.stripeOut = s.stripeOut ++ [.data ((s.storeBlock k.store).take n), .cut, .idle]) ∧
    t.press = ⟨2, .rotate, 30, 60, 10, 20, 3, true, 10, .last, .cure⟩ ∧
    t.pass.dry = ⟨110, 8, 140, 3, 150, 175, 2, true, 185, 4, 120⟩ ∧
    t.pass.cure = ⟨150, 16, 165, 3, 160, 190, 2, true, 200, 4, 240⟩ ∧
    (∀ h, t.heads.get h =
      ⟨.free, .cure, none, .cureRush, .transit, false, false, false, some ⟨.park, 10000⟩, none⟩ ∧
      t.thermal.get h = ⟨160, ⟨false, 0, .dry, 0, .none, 1⟩⟩) ∧
    (∀ l, t.lists.get l = []) ∧ t.level1 = .dryGroup ∧ t.level2 = .dryStd ∧
    (cause = .pin → t.store = s.store ∧ t.powerOns = s.powerOns) ∧
    (cause = .powerOn → t.store = [] ∧ t.powerOns = s.powerOns + 1)

/-! ## What every step keeps -/

/-- Once commissioning is closed it stays closed, and no configuration parameter changes, until a full
reset (R175), whatever command, tick or timer expiry comes. -/
def Obligations.CommissioningClosedKeepsParameters : Prop :=
  ∀ s t : State, s.commissioningOpen = false → step s = .next t →
    (∀ c rest, s.pending = c :: rest → isFullReset c = false) →
    t.commissioningOpen = false ∧ t.params = s.params ∧ t.fabric = s.fabric ∧ t.press = s.press ∧
      t.pass = s.pass

/-- Every step keeps the store's canonical form, and only a block of a load run and a power-on change
the store or what its unwritten words hold (R57). -/
def Obligations.StoreIsKept : Prop :=
  ∀ s t : State, StoreCanonical s → step s = .next t →
    StoreCanonical t ∧
      ((∀ c rest, s.pending = c :: rest → mayWriteStore c = false) →
        t.store = s.store ∧ t.powerOns = s.powerOns)

/-- In every step, ASSIGNMENT_0 and ASSIGNMENT_1 stay pending exactly while their head's mailbox slot is
non-empty (R176). -/
def Obligations.MailboxesStayShown : Prop :=
  ∀ s t : State, MailboxesShown s → step s = .next t → MailboxesShown t

/-- In every step, each fabric row keeps Dmin ≤ Dmax, each pass class column its setpoint window and its
scorch margin, and each present head's setpoint stays in the window of its class (R95, R148, R151). -/
def Obligations.SetpointsStayHeld : Prop :=
  ∀ s t : State, SetpointsHeld s → step s = .next t → SetpointsHeld t

/-- The invariants hold right after full reset. -/
def Obligations.ResetMeetsTheInvariants : Prop :=
  StoreCanonical State.reset ∧ MailboxesShown State.reset ∧ SetpointsHeld State.reset
end

