-- ==== Sys2Proof/Laws/State.lean ====
section
/-! SUPPORT. The small lemmas of State and of the records it is made of: what each update of a record
leaves in each field, so that no later proof unfolds an update. -/

namespace Sys2Proof

/-! ## One entry per key -/

@[simp] theorem PerPort.get_set_self {α : Type} (t : PerPort α) (i : Port) (x : α) :
    (t.set i x).get i = x := by cases i <;> rfl
@[simp] theorem PerPort.get_set_ne {α : Type} (t : PerPort α) {i j : Port} (x : α) (h : j ≠ i) :
    (t.set i x).get j = t.get j := by cases i <;> cases j <;> first | rfl | exact absurd rfl h
@[simp] theorem PerPort.get_modify_self {α : Type} (t : PerPort α) (i : Port) (f : α → α) :
    (t.modify i f).get i = f (t.get i) := by cases i <;> rfl
@[simp] theorem PerPort.get_modify_ne {α : Type} (t : PerPort α) {i j : Port} (f : α → α) (h : j ≠ i) :
    (t.modify i f).get j = t.get j := by cases i <;> cases j <;> first | rfl | exact absurd rfl h
@[simp] theorem PerPort.get_map {α β : Type} (t : PerPort α) (i : Port) (f : α → β) :
    (t.map f).get i = f (t.get i) := by cases i <;> rfl
theorem PerPort.ext_get {α : Type} {t u : PerPort α} (h : ∀ i : Port, t.get i = u.get i) : t = u := by
  cases t; cases u
  simp only [PerPort.mk.injEq]
  exact ⟨h .order, h .pretreat, h .print, h .press⟩

@[simp] theorem PerBed.get_set_self {α : Type} (t : PerBed α) (i : Bed) (x : α) :
    (t.set i x).get i = x := by cases i <;> rfl
@[simp] theorem PerBed.get_set_ne {α : Type} (t : PerBed α) {i j : Bed} (x : α) (h : j ≠ i) :
    (t.set i x).get j = t.get j := by cases i <;> cases j <;> first | rfl | exact absurd rfl h
@[simp] theorem PerBed.get_modify_self {α : Type} (t : PerBed α) (i : Bed) (f : α → α) :
    (t.modify i f).get i = f (t.get i) := by cases i <;> rfl
@[simp] theorem PerBed.get_modify_ne {α : Type} (t : PerBed α) {i j : Bed} (f : α → α) (h : j ≠ i) :
    (t.modify i f).get j = t.get j := by cases i <;> cases j <;> first | rfl | exact absurd rfl h
@[simp] theorem PerBed.get_map {α β : Type} (t : PerBed α) (i : Bed) (f : α → β) :
    (t.map f).get i = f (t.get i) := by cases i <;> rfl
theorem PerBed.ext_get {α : Type} {t u : PerBed α} (h : ∀ i : Bed, t.get i = u.get i) : t = u := by
  cases t; cases u
  simp only [PerBed.mk.injEq]
  exact ⟨h .a, h .b⟩

@[simp] theorem PerHead.get_set_self {α : Type} (t : PerHead α) (i : HeadId) (x : α) :
    (t.set i x).get i = x := by cases i <;> rfl
@[simp] theorem PerHead.get_set_ne {α : Type} (t : PerHead α) {i j : HeadId} (x : α) (h : j ≠ i) :
    (t.set i x).get j = t.get j := by cases i <;> cases j <;> first | rfl | exact absurd rfl h
@[simp] theorem PerHead.get_modify_self {α : Type} (t : PerHead α) (i : HeadId) (f : α → α) :
    (t.modify i f).get i = f (t.get i) := by cases i <;> rfl
@[simp] theorem PerHead.get_modify_ne {α : Type} (t : PerHead α) {i j : HeadId} (f : α → α) (h : j ≠ i) :
    (t.modify i f).get j = t.get j := by cases i <;> cases j <;> first | rfl | exact absurd rfl h
@[simp] theorem PerHead.get_map {α β : Type} (t : PerHead α) (i : HeadId) (f : α → β) :
    (t.map f).get i = f (t.get i) := by cases i <;> rfl
theorem PerHead.ext_get {α : Type} {t u : PerHead α} (h : ∀ i : HeadId, t.get i = u.get i) : t = u := by
  cases t; cases u
  simp only [PerHead.mk.injEq]
  exact ⟨h .h0, h .h1⟩

@[simp] theorem PerClass.get_set_self {α : Type} (t : PerClass α) (i : PassClass) (x : α) :
    (t.set i x).get i = x := by cases i <;> rfl
@[simp] theorem PerClass.get_set_ne {α : Type} (t : PerClass α) {i j : PassClass} (x : α) (h : j ≠ i) :
    (t.set i x).get j = t.get j := by cases i <;> cases j <;> first | rfl | exact absurd rfl h
@[simp] theorem PerClass.get_modify_self {α : Type} (t : PerClass α) (i : PassClass) (f : α → α) :
    (t.modify i f).get i = f (t.get i) := by cases i <;> rfl
@[simp] theorem PerClass.get_modify_ne {α : Type} (t : PerClass α) {i j : PassClass} (f : α → α) (h : j ≠ i) :
    (t.modify i f).get j = t.get j := by cases i <;> cases j <;> first | rfl | exact absurd rfl h
@[simp] theorem PerClass.get_map {α β : Type} (t : PerClass α) (i : PassClass) (f : α → β) :
    (t.map f).get i = f (t.get i) := by cases i <;> rfl
theorem PerClass.ext_get {α : Type} {t u : PerClass α} (h : ∀ i : PassClass, t.get i = u.get i) : t = u := by
  cases t; cases u
  simp only [PerClass.mk.injEq]
  exact ⟨h .dry, h .cure⟩

@[simp] theorem PerSide.get_set_self {α : Type} (t : PerSide α) (i : Side) (x : α) :
    (t.set i x).get i = x := by cases i <;> rfl
@[simp] theorem PerSide.get_set_ne {α : Type} (t : PerSide α) {i j : Side} (x : α) (h : j ≠ i) :
    (t.set i x).get j = t.get j := by cases i <;> cases j <;> first | rfl | exact absurd rfl h
@[simp] theorem PerSide.get_modify_self {α : Type} (t : PerSide α) (i : Side) (f : α → α) :
    (t.modify i f).get i = f (t.get i) := by cases i <;> rfl
@[simp] theorem PerSide.get_modify_ne {α : Type} (t : PerSide α) {i j : Side} (f : α → α) (h : j ≠ i) :
    (t.modify i f).get j = t.get j := by cases i <;> cases j <;> first | rfl | exact absurd rfl h
@[simp] theorem PerSide.get_map {α β : Type} (t : PerSide α) (i : Side) (f : α → β) :
    (t.map f).get i = f (t.get i) := by cases i <;> rfl
theorem PerSide.ext_get {α : Type} {t u : PerSide α} (h : ∀ i : Side, t.get i = u.get i) : t = u := by
  cases t; cases u
  simp only [PerSide.mk.injEq]
  exact ⟨h .load, h .print⟩

@[simp] theorem PerList.get_set_self {α : Type} (t : PerList α) (i : RackList) (x : α) :
    (t.set i x).get i = x := by cases i <;> rfl
@[simp] theorem PerList.get_set_ne {α : Type} (t : PerList α) {i j : RackList} (x : α) (h : j ≠ i) :
    (t.set i x).get j = t.get j := by cases i <;> cases j <;> first | rfl | exact absurd rfl h
@[simp] theorem PerList.get_modify_self {α : Type} (t : PerList α) (i : RackList) (f : α → α) :
    (t.modify i f).get i = f (t.get i) := by cases i <;> rfl
@[simp] theorem PerList.get_modify_ne {α : Type} (t : PerList α) {i j : RackList} (f : α → α) (h : j ≠ i) :
    (t.modify i f).get j = t.get j := by cases i <;> cases j <;> first | rfl | exact absurd rfl h
@[simp] theorem PerList.get_map {α β : Type} (t : PerList α) (i : RackList) (f : α → β) :
    (t.map f).get i = f (t.get i) := by cases i <;> rfl
theorem PerList.ext_get {α : Type} {t u : PerList α} (h : ∀ i : RackList, t.get i = u.get i) : t = u := by
  cases t; cases u
  simp only [PerList.mk.injEq]
  exact ⟨h .cureRush, h .cureStd, h .dryRush, h .dryStd⟩

@[simp] theorem PerPlane.get_set_self {α : Type} (t : PerPlane α) (i : Plane) (x : α) :
    (t.set i x).get i = x := by cases i <;> rfl
@[simp] theorem PerPlane.get_set_ne {α : Type} (t : PerPlane α) {i j : Plane} (x : α) (h : j ≠ i) :
    (t.set i x).get j = t.get j := by cases i <;> cases j <;> first | rfl | exact absurd rfl h
@[simp] theorem PerPlane.get_modify_self {α : Type} (t : PerPlane α) (i : Plane) (f : α → α) :
    (t.modify i f).get i = f (t.get i) := by cases i <;> rfl
@[simp] theorem PerPlane.get_modify_ne {α : Type} (t : PerPlane α) {i j : Plane} (f : α → α) (h : j ≠ i) :
    (t.modify i f).get j = t.get j := by cases i <;> cases j <;> first | rfl | exact absurd rfl h
@[simp] theorem PerPlane.get_map {α β : Type} (t : PerPlane α) (i : Plane) (f : α → β) :
    (t.map f).get i = f (t.get i) := by cases i <;> rfl
theorem PerPlane.ext_get {α : Type} {t u : PerPlane α} (h : ∀ i : Plane, t.get i = u.get i) : t = u := by
  cases t; cases u
  simp only [PerPlane.mk.injEq]
  exact ⟨h .c, h .m, h .y, h .k, h .w⟩

/-! ## Tables -/

@[simp] theorem Table.get_set_self {α : Type} {n : Nat} (t : Table α n) (i : Fin n) (x : α) :
    (t.set i x).get i = x := by simp [Table.get, Table.set]
@[simp] theorem Table.get_set_ne {α : Type} {n : Nat} (t : Table α n) {i j : Fin n} (x : α)
    (h : j ≠ i) : (t.set i x).get j = t.get j := by
  have hv : i.val ≠ j.val := fun e => h (Fin.ext e.symm)
  simp [Table.get, Table.set, hv]
@[simp] theorem Table.get_modify_self {α : Type} {n : Nat} (t : Table α n) (i : Fin n) (f : α → α) :
    (t.modify i f).get i = f (t.get i) := by simp [Table.modify]
@[simp] theorem Table.get_modify_ne {α : Type} {n : Nat} (t : Table α n) {i j : Fin n} (f : α → α)
    (h : j ≠ i) : (t.modify i f).get j = t.get j := by simp [Table.modify, h]
@[simp] theorem Table.get_replicate {α : Type} {n : Nat} (a : α) (i : Fin n) :
    (Table.replicate n a).get i = a := by simp [Table.get, Table.replicate]
@[simp] theorem Table.get_map {α β : Type} {n : Nat} (t : Table α n) (i : Fin n) (f : α → β) :
    (t.map f).get i = f (t.get i) := by simp [Table.get, Table.map]
@[simp] theorem Table.get_tabulate {α : Type} {n : Nat} (f : Fin n → α) (i : Fin n) :
    (Table.tabulate f).get i = f i := by simp [Table.get, Table.tabulate]
theorem Table.ext_get {α : Type} {n : Nat} {t u : Table α n} (h : ∀ i, t.get i = u.get i) : t = u := by
  obtain ⟨c, hc⟩ := t
  obtain ⟨d, hd⟩ := u
  simp only [Table.mk.injEq]
  apply List.ext_getElem (by omega)
  intro i h1 h2
  exact h ⟨i, by omega⟩
theorem Table.findIx_some {α : Type} {n : Nat} {t : Table α n} {p : α → Bool} {i : Fin n}
    (h : t.findIx p = some i) : p (t.get i) = true := by
  unfold Table.findIx at h
  exact List.find?_some (p := fun i => p (t.get i)) h

namespace Machine

/-! ## modifyPort -/

@[simp] theorem State.modifyPort_ports (s : State) (p : Port) (f : PortState → PortState) :
    (s.modifyPort p f).ports = s.ports.modify p f := rfl
@[simp] theorem State.modifyPort_commissioningOpen (s : State) (p : Port) (f : PortState → PortState) :
    (s.modifyPort p f).commissioningOpen = s.commissioningOpen := rfl
@[simp] theorem State.modifyPort_lineClears (s : State) (p : Port) (f : PortState → PortState) :
    (s.modifyPort p f).lineClears = s.lineClears := rfl
@[simp] theorem State.modifyPort_params (s : State) (p : Port) (f : PortState → PortState) :
    (s.modifyPort p f).params = s.params := rfl
@[simp] theorem State.modifyPort_lines (s : State) (p : Port) (f : PortState → PortState) :
    (s.modifyPort p f).lines = s.lines := rfl
@[simp] theorem State.modifyPort_age (s : State) (p : Port) (f : PortState → PortState) :
    (s.modifyPort p f).age = s.age := rfl
@[simp] theorem State.modifyPort_platens (s : State) (p : Port) (f : PortState → PortState) :
    (s.modifyPort p f).platens = s.platens := rfl
@[simp] theorem State.modifyPort_pretreatQueue (s : State) (p : Port) (f : PortState → PortState) :
    (s.modifyPort p f).pretreatQueue = s.pretreatQueue := rfl
@[simp] theorem State.modifyPort_printQueue (s : State) (p : Port) (f : PortState → PortState) :
    (s.modifyPort p f).printQueue = s.printQueue := rfl
@[simp] theorem State.modifyPort_slot (s : State) (p : Port) (f : PortState → PortState) :
    (s.modifyPort p f).slot = s.slot := rfl
@[simp] theorem State.modifyPort_artworks (s : State) (p : Port) (f : PortState → PortState) :
    (s.modifyPort p f).artworks = s.artworks := rfl
@[simp] theorem State.modifyPort_faults (s : State) (p : Port) (f : PortState → PortState) :
    (s.modifyPort p f).faults = s.faults := rfl
@[simp] theorem State.modifyPort_loadRun (s : State) (p : Port) (f : PortState → PortState) :
    (s.modifyPort p f).loadRun = s.loadRun := rfl
@[simp] theorem State.modifyPort_loadBlock (s : State) (p : Port) (f : PortState → PortState) :
    (s.modifyPort p f).loadBlock = s.loadBlock := rfl
@[simp] theorem State.modifyPort_store (s : State) (p : Port) (f : PortState → PortState) :
    (s.modifyPort p f).store = s.store := rfl
@[simp] theorem State.modifyPort_powerOns (s : State) (p : Port) (f : PortState → PortState) :
    (s.modifyPort p f).powerOns = s.powerOns := rfl
@[simp] theorem State.modifyPort_engine (s : State) (p : Port) (f : PortState → PortState) :
    (s.modifyPort p f).engine = s.engine := rfl
@[simp] theorem State.modifyPort_fabric (s : State) (p : Port) (f : PortState → PortState) :
    (s.modifyPort p f).fabric = s.fabric := rfl
@[simp] theorem State.modifyPort_beds (s : State) (p : Port) (f : PortState → PortState) :
    (s.modifyPort p f).beds = s.beds := rfl
@[simp] theorem State.modifyPort_link (s : State) (p : Port) (f : PortState → PortState) :
    (s.modifyPort p f).link = s.link := rfl
@[simp] theorem State.modifyPort_stripeOut (s : State) (p : Port) (f : PortState → PortState) :
    (s.modifyPort p f).stripeOut = s.stripeOut := rfl
@[simp] theorem State.modifyPort_press (s : State) (p : Port) (f : PortState → PortState) :
    (s.modifyPort p f).press = s.press := rfl
@[simp] theorem State.modifyPort_heads (s : State) (p : Port) (f : PortState → PortState) :
    (s.modifyPort p f).heads = s.heads := rfl
@[simp] theorem State.modifyPort_lists (s : State) (p : Port) (f : PortState → PortState) :
    (s.modifyPort p f).lists = s.lists := rfl
@[simp] theorem State.modifyPort_level1 (s : State) (p : Port) (f : PortState → PortState) :
    (s.modifyPort p f).level1 = s.level1 := rfl
@[simp] theorem State.modifyPort_level2 (s : State) (p : Port) (f : PortState → PortState) :
    (s.modifyPort p f).level2 = s.level2 := rfl
@[simp] theorem State.modifyPort_pass (s : State) (p : Port) (f : PortState → PortState) :
    (s.modifyPort p f).pass = s.pass := rfl
@[simp] theorem State.modifyPort_thermal (s : State) (p : Port) (f : PortState → PortState) :
    (s.modifyPort p f).thermal = s.thermal := rfl
@[simp] theorem State.modifyPort_pending (s : State) (p : Port) (f : PortState → PortState) :
    (s.modifyPort p f).pending = s.pending := rfl

/-! ## modifyLine -/

@[simp] theorem State.modifyLine_ports (s : State) (i : LineIx) (f : OrderLine → OrderLine) :
    (s.modifyLine i f).ports = s.ports := rfl
@[simp] theorem State.modifyLine_commissioningOpen (s : State) (i : LineIx) (f : OrderLine → OrderLine) :
    (s.modifyLine i f).commissioningOpen = s.commissioningOpen := rfl
@[simp] theorem State.modifyLine_lineClears (s : State) (i : LineIx) (f : OrderLine → OrderLine) :
    (s.modifyLine i f).lineClears = s.lineClears := rfl
@[simp] theorem State.modifyLine_params (s : State) (i : LineIx) (f : OrderLine → OrderLine) :
    (s.modifyLine i f).params = s.params := rfl
@[simp] theorem State.modifyLine_lines (s : State) (i : LineIx) (f : OrderLine → OrderLine) :
    (s.modifyLine i f).lines = s.lines.modify i f := rfl
@[simp] theorem State.modifyLine_age (s : State) (i : LineIx) (f : OrderLine → OrderLine) :
    (s.modifyLine i f).age = s.age := rfl
@[simp] theorem State.modifyLine_platens (s : State) (i : LineIx) (f : OrderLine → OrderLine) :
    (s.modifyLine i f).platens = s.platens := rfl
@[simp] theorem State.modifyLine_pretreatQueue (s : State) (i : LineIx) (f : OrderLine → OrderLine) :
    (s.modifyLine i f).pretreatQueue = s.pretreatQueue := rfl
@[simp] theorem State.modifyLine_printQueue (s : State) (i : LineIx) (f : OrderLine → OrderLine) :
    (s.modifyLine i f).printQueue = s.printQueue := rfl
@[simp] theorem State.modifyLine_slot (s : State) (i : LineIx) (f : OrderLine → OrderLine) :
    (s.modifyLine i f).slot = s.slot := rfl
@[simp] theorem State.modifyLine_artworks (s : State) (i : LineIx) (f : OrderLine → OrderLine) :
    (s.modifyLine i f).artworks = s.artworks := rfl
@[simp] theorem State.modifyLine_faults (s : State) (i : LineIx) (f : OrderLine → OrderLine) :
    (s.modifyLine i f).faults = s.faults := rfl
@[simp] theorem State.modifyLine_loadRun (s : State) (i : LineIx) (f : OrderLine → OrderLine) :
    (s.modifyLine i f).loadRun = s.loadRun := rfl
@[simp] theorem State.modifyLine_loadBlock (s : State) (i : LineIx) (f : OrderLine → OrderLine) :
    (s.modifyLine i f).loadBlock = s.loadBlock := rfl
@[simp] theorem State.modifyLine_store (s : State) (i : LineIx) (f : OrderLine → OrderLine) :
    (s.modifyLine i f).store = s.store := rfl
@[simp] theorem State.modifyLine_powerOns (s : State) (i : LineIx) (f : OrderLine → OrderLine) :
    (s.modifyLine i f).powerOns = s.powerOns := rfl
@[simp] theorem State.modifyLine_engine (s : State) (i : LineIx) (f : OrderLine → OrderLine) :
    (s.modifyLine i f).engine = s.engine := rfl
@[simp] theorem State.modifyLine_fabric (s : State) (i : LineIx) (f : OrderLine → OrderLine) :
    (s.modifyLine i f).fabric = s.fabric := rfl
@[simp] theorem State.modifyLine_beds (s : State) (i : LineIx) (f : OrderLine → OrderLine) :
    (s.modifyLine i f).beds = s.beds := rfl
@[simp] theorem State.modifyLine_link (s : State) (i : LineIx) (f : OrderLine → OrderLine) :
    (s.modifyLine i f).link = s.link := rfl
@[simp] theorem State.modifyLine_stripeOut (s : State) (i : LineIx) (f : OrderLine → OrderLine) :
    (s.modifyLine i f).stripeOut = s.stripeOut := rfl
@[simp] theorem State.modifyLine_press (s : State) (i : LineIx) (f : OrderLine → OrderLine) :
    (s.modifyLine i f).press = s.press := rfl
@[simp] theorem State.modifyLine_heads (s : State) (i : LineIx) (f : OrderLine → OrderLine) :
    (s.modifyLine i f).heads = s.heads := rfl
@[simp] theorem State.modifyLine_lists (s : State) (i : LineIx) (f : OrderLine → OrderLine) :
    (s.modifyLine i f).lists = s.lists := rfl
@[simp] theorem State.modifyLine_level1 (s : State) (i : LineIx) (f : OrderLine → OrderLine) :
    (s.modifyLine i f).level1 = s.level1 := rfl
@[simp] theorem State.modifyLine_level2 (s : State) (i : LineIx) (f : OrderLine → OrderLine) :
    (s.modifyLine i f).level2 = s.level2 := rfl
@[simp] theorem State.modifyLine_pass (s : State) (i : LineIx) (f : OrderLine → OrderLine) :
    (s.modifyLine i f).pass = s.pass := rfl
@[simp] theorem State.modifyLine_thermal (s : State) (i : LineIx) (f : OrderLine → OrderLine) :
    (s.modifyLine i f).thermal = s.thermal := rfl
@[simp] theorem State.modifyLine_pending (s : State) (i : LineIx) (f : OrderLine → OrderLine) :
    (s.modifyLine i f).pending = s.pending := rfl

/-! ## modifyPlaten -/

@[simp] theorem State.modifyPlaten_ports (s : State) (i : PlatenIx) (f : Platen → Platen) :
    (s.modifyPlaten i f).ports = s.ports := rfl
@[simp] theorem State.modifyPlaten_commissioningOpen (s : State) (i : PlatenIx) (f : Platen → Platen) :
    (s.modifyPlaten i f).commissioningOpen = s.commissioningOpen := rfl
@[simp] theorem State.modifyPlaten_lineClears (s : State) (i : PlatenIx) (f : Platen → Platen) :
    (s.modifyPlaten i f).lineClears = s.lineClears := rfl
@[simp] theorem State.modifyPlaten_params (s : State) (i : PlatenIx) (f : Platen → Platen) :
    (s.modifyPlaten i f).params = s.params := rfl
@[simp] theorem State.modifyPlaten_lines (s : State) (i : PlatenIx) (f : Platen → Platen) :
    (s.modifyPlaten i f).lines = s.lines := rfl
@[simp] theorem State.modifyPlaten_age (s : State) (i : PlatenIx) (f : Platen → Platen) :
    (s.modifyPlaten i f).age = s.age := rfl
@[simp] theorem State.modifyPlaten_platens (s : State) (i : PlatenIx) (f : Platen → Platen) :
    (s.modifyPlaten i f).platens = s.platens.modify i f := rfl
@[simp] theorem State.modifyPlaten_pretreatQueue (s : State) (i : PlatenIx) (f : Platen → Platen) :
    (s.modifyPlaten i f).pretreatQueue = s.pretreatQueue := rfl
@[simp] theorem State.modifyPlaten_printQueue (s : State) (i : PlatenIx) (f : Platen → Platen) :
    (s.modifyPlaten i f).printQueue = s.printQueue := rfl
@[simp] theorem State.modifyPlaten_slot (s : State) (i : PlatenIx) (f : Platen → Platen) :
    (s.modifyPlaten i f).slot = s.slot := rfl
@[simp] theorem State.modifyPlaten_artworks (s : State) (i : PlatenIx) (f : Platen → Platen) :
    (s.modifyPlaten i f).artworks = s.artworks := rfl
@[simp] theorem State.modifyPlaten_faults (s : State) (i : PlatenIx) (f : Platen → Platen) :
    (s.modifyPlaten i f).faults = s.faults := rfl
@[simp] theorem State.modifyPlaten_loadRun (s : State) (i : PlatenIx) (f : Platen → Platen) :
    (s.modifyPlaten i f).loadRun = s.loadRun := rfl
@[simp] theorem State.modifyPlaten_loadBlock (s : State) (i : PlatenIx) (f : Platen → Platen) :
    (s.modifyPlaten i f).loadBlock = s.loadBlock := rfl
@[simp] theorem State.modifyPlaten_store (s : State) (i : PlatenIx) (f : Platen → Platen) :
    (s.modifyPlaten i f).store = s.store := rfl
@[simp] theorem State.modifyPlaten_powerOns (s : State) (i : PlatenIx) (f : Platen → Platen) :
    (s.modifyPlaten i f).powerOns = s.powerOns := rfl
@[simp] theorem State.modifyPlaten_engine (s : State) (i : PlatenIx) (f : Platen → Platen) :
    (s.modifyPlaten i f).engine = s.engine := rfl
@[simp] theorem State.modifyPlaten_fabric (s : State) (i : PlatenIx) (f : Platen → Platen) :
    (s.modifyPlaten i f).fabric = s.fabric := rfl
@[simp] theorem State.modifyPlaten_beds (s : State) (i : PlatenIx) (f : Platen → Platen) :
    (s.modifyPlaten i f).beds = s.beds := rfl
@[simp] theorem State.modifyPlaten_link (s : State) (i : PlatenIx) (f : Platen → Platen) :
    (s.modifyPlaten i f).link = s.link := rfl
@[simp] theorem State.modifyPlaten_stripeOut (s : State) (i : PlatenIx) (f : Platen → Platen) :
    (s.modifyPlaten i f).stripeOut = s.stripeOut := rfl
@[simp] theorem State.modifyPlaten_press (s : State) (i : PlatenIx) (f : Platen → Platen) :
    (s.modifyPlaten i f).press = s.press := rfl
@[simp] theorem State.modifyPlaten_heads (s : State) (i : PlatenIx) (f : Platen → Platen) :
    (s.modifyPlaten i f).heads = s.heads := rfl
@[simp] theorem State.modifyPlaten_lists (s : State) (i : PlatenIx) (f : Platen → Platen) :
    (s.modifyPlaten i f).lists = s.lists := rfl
@[simp] theorem State.modifyPlaten_level1 (s : State) (i : PlatenIx) (f : Platen → Platen) :
    (s.modifyPlaten i f).level1 = s.level1 := rfl
@[simp] theorem State.modifyPlaten_level2 (s : State) (i : PlatenIx) (f : Platen → Platen) :
    (s.modifyPlaten i f).level2 = s.level2 := rfl
@[simp] theorem State.modifyPlaten_pass (s : State) (i : PlatenIx) (f : Platen → Platen) :
    (s.modifyPlaten i f).pass = s.pass := rfl
@[simp] theorem State.modifyPlaten_thermal (s : State) (i : PlatenIx) (f : Platen → Platen) :
    (s.modifyPlaten i f).thermal = s.thermal := rfl
@[simp] theorem State.modifyPlaten_pending (s : State) (i : PlatenIx) (f : Platen → Platen) :
    (s.modifyPlaten i f).pending = s.pending := rfl

/-! ## modifyArtwork -/

@[simp] theorem State.modifyArtwork_ports (s : State) (i : ArtIx) (f : Artwork → Artwork) :
    (s.modifyArtwork i f).ports = s.ports := rfl
@[simp] theorem State.modifyArtwork_commissioningOpen (s : State) (i : ArtIx) (f : Artwork → Artwork) :
    (s.modifyArtwork i f).commissioningOpen = s.commissioningOpen := rfl
@[simp] theorem State.modifyArtwork_lineClears (s : State) (i : ArtIx) (f : Artwork → Artwork) :
    (s.modifyArtwork i f).lineClears = s.lineClears := rfl
@[simp] theorem State.modifyArtwork_params (s : State) (i : ArtIx) (f : Artwork → Artwork) :
    (s.modifyArtwork i f).params = s.params := rfl
@[simp] theorem State.modifyArtwork_lines (s : State) (i : ArtIx) (f : Artwork → Artwork) :
    (s.modifyArtwork i f).lines = s.lines := rfl
@[simp] theorem State.modifyArtwork_age (s : State) (i : ArtIx) (f : Artwork → Artwork) :
    (s.modifyArtwork i f).age = s.age := rfl
@[simp] theorem State.modifyArtwork_platens (s : State) (i : ArtIx) (f : Artwork → Artwork) :
    (s.modifyArtwork i f).platens = s.platens := rfl
@[simp] theorem State.modifyArtwork_pretreatQueue (s : State) (i : ArtIx) (f : Artwork → Artwork) :
    (s.modifyArtwork i f).pretreatQueue = s.pretreatQueue := rfl
@[simp] theorem State.modifyArtwork_printQueue (s : State) (i : ArtIx) (f : Artwork → Artwork) :
    (s.modifyArtwork i f).printQueue = s.printQueue := rfl
@[simp] theorem State.modifyArtwork_slot (s : State) (i : ArtIx) (f : Artwork → Artwork) :
    (s.modifyArtwork i f).slot = s.slot := rfl
@[simp] theorem State.modifyArtwork_artworks (s : State) (i : ArtIx) (f : Artwork → Artwork) :
    (s.modifyArtwork i f).artworks = s.artworks.modify i f := rfl
@[simp] theorem State.modifyArtwork_faults (s : State) (i : ArtIx) (f : Artwork → Artwork) :
    (s.modifyArtwork i f).faults = s.faults := rfl
@[simp] theorem State.modifyArtwork_loadRun (s : State) (i : ArtIx) (f : Artwork → Artwork) :
    (s.modifyArtwork i f).loadRun = s.loadRun := rfl
@[simp] theorem State.modifyArtwork_loadBlock (s : State) (i : ArtIx) (f : Artwork → Artwork) :
    (s.modifyArtwork i f).loadBlock = s.loadBlock := rfl
@[simp] theorem State.modifyArtwork_store (s : State) (i : ArtIx) (f : Artwork → Artwork) :
    (s.modifyArtwork i f).store = s.store := rfl
@[simp] theorem State.modifyArtwork_powerOns (s : State) (i : ArtIx) (f : Artwork → Artwork) :
    (s.modifyArtwork i f).powerOns = s.powerOns := rfl
@[simp] theorem State.modifyArtwork_engine (s : State) (i : ArtIx) (f : Artwork → Artwork) :
    (s.modifyArtwork i f).engine = s.engine := rfl
@[simp] theorem State.modifyArtwork_fabric (s : State) (i : ArtIx) (f : Artwork → Artwork) :
    (s.modifyArtwork i f).fabric = s.fabric := rfl
@[simp] theorem State.modifyArtwork_beds (s : State) (i : ArtIx) (f : Artwork → Artwork) :
    (s.modifyArtwork i f).beds = s.beds := rfl
@[simp] theorem State.modifyArtwork_link (s : State) (i : ArtIx) (f : Artwork → Artwork) :
    (s.modifyArtwork i f).link = s.link := rfl
@[simp] theorem State.modifyArtwork_stripeOut (s : State) (i : ArtIx) (f : Artwork → Artwork) :
    (s.modifyArtwork i f).stripeOut = s.stripeOut := rfl
@[simp] theorem State.modifyArtwork_press (s : State) (i : ArtIx) (f : Artwork → Artwork) :
    (s.modifyArtwork i f).press = s.press := rfl
@[simp] theorem State.modifyArtwork_heads (s : State) (i : ArtIx) (f : Artwork → Artwork) :
    (s.modifyArtwork i f).heads = s.heads := rfl
@[simp] theorem State.modifyArtwork_lists (s : State) (i : ArtIx) (f : Artwork → Artwork) :
    (s.modifyArtwork i f).lists = s.lists := rfl
@[simp] theorem State.modifyArtwork_level1 (s : State) (i : ArtIx) (f : Artwork → Artwork) :
    (s.modifyArtwork i f).level1 = s.level1 := rfl
@[simp] theorem State.modifyArtwork_level2 (s : State) (i : ArtIx) (f : Artwork → Artwork) :
    (s.modifyArtwork i f).level2 = s.level2 := rfl
@[simp] theorem State.modifyArtwork_pass (s : State) (i : ArtIx) (f : Artwork → Artwork) :
    (s.modifyArtwork i f).pass = s.pass := rfl
@[simp] theorem State.modifyArtwork_thermal (s : State) (i : ArtIx) (f : Artwork → Artwork) :
    (s.modifyArtwork i f).thermal = s.thermal := rfl
@[simp] theorem State.modifyArtwork_pending (s : State) (i : ArtIx) (f : Artwork → Artwork) :
    (s.modifyArtwork i f).pending = s.pending := rfl

/-! ## modifyHead -/

@[simp] theorem State.modifyHead_ports (s : State) (h : HeadId) (f : Head → Head) :
    (s.modifyHead h f).ports = s.ports := rfl
@[simp] theorem State.modifyHead_commissioningOpen (s : State) (h : HeadId) (f : Head → Head) :
    (s.modifyHead h f).commissioningOpen = s.commissioningOpen := rfl
@[simp] theorem State.modifyHead_lineClears (s : State) (h : HeadId) (f : Head → Head) :
    (s.modifyHead h f).lineClears = s.lineClears := rfl
@[simp] theorem State.modifyHead_params (s : State) (h : HeadId) (f : Head → Head) :
    (s.modifyHead h f).params = s.params := rfl
@[simp] theorem State.modifyHead_lines (s : State) (h : HeadId) (f : Head → Head) :
    (s.modifyHead h f).lines = s.lines := rfl
@[simp] theorem State.modifyHead_age (s : State) (h : HeadId) (f : Head → Head) :
    (s.modifyHead h f).age = s.age := rfl
@[simp] theorem State.modifyHead_platens (s : State) (h : HeadId) (f : Head → Head) :
    (s.modifyHead h f).platens = s.platens := rfl
@[simp] theorem State.modifyHead_pretreatQueue (s : State) (h : HeadId) (f : Head → Head) :
    (s.modifyHead h f).pretreatQueue = s.pretreatQueue := rfl
@[simp] theorem State.modifyHead_printQueue (s : State) (h : HeadId) (f : Head → Head) :
    (s.modifyHead h f).printQueue = s.printQueue := rfl
@[simp] theorem State.modifyHead_slot (s : State) (h : HeadId) (f : Head → Head) :
    (s.modifyHead h f).slot = s.slot := rfl
@[simp] theorem State.modifyHead_artworks (s : State) (h : HeadId) (f : Head → Head) :
    (s.modifyHead h f).artworks = s.artworks := rfl
@[simp] theorem State.modifyHead_faults (s : State) (h : HeadId) (f : Head → Head) :
    (s.modifyHead h f).faults = s.faults := rfl
@[simp] theorem State.modifyHead_loadRun (s : State) (h : HeadId) (f : Head → Head) :
    (s.modifyHead h f).loadRun = s.loadRun := rfl
@[simp] theorem State.modifyHead_loadBlock (s : State) (h : HeadId) (f : Head → Head) :
    (s.modifyHead h f).loadBlock = s.loadBlock := rfl
@[simp] theorem State.modifyHead_store (s : State) (h : HeadId) (f : Head → Head) :
    (s.modifyHead h f).store = s.store := rfl
@[simp] theorem State.modifyHead_powerOns (s : State) (h : HeadId) (f : Head → Head) :
    (s.modifyHead h f).powerOns = s.powerOns := rfl
@[simp] theorem State.modifyHead_engine (s : State) (h : HeadId) (f : Head → Head) :
    (s.modifyHead h f).engine = s.engine := rfl
@[simp] theorem State.modifyHead_fabric (s : State) (h : HeadId) (f : Head → Head) :
    (s.modifyHead h f).fabric = s.fabric := rfl
@[simp] theorem State.modifyHead_beds (s : State) (h : HeadId) (f : Head → Head) :
    (s.modifyHead h f).beds = s.beds := rfl
@[simp] theorem State.modifyHead_link (s : State) (h : HeadId) (f : Head → Head) :
    (s.modifyHead h f).link = s.link := rfl
@[simp] theorem State.modifyHead_stripeOut (s : State) (h : HeadId) (f : Head → Head) :
    (s.modifyHead h f).stripeOut = s.stripeOut := rfl
@[simp] theorem State.modifyHead_press (s : State) (h : HeadId) (f : Head → Head) :
    (s.modifyHead h f).press = s.press := rfl
@[simp] theorem State.modifyHead_heads (s : State) (h : HeadId) (f : Head → Head) :
    (s.modifyHead h f).heads = s.heads.modify h f := rfl
@[simp] theorem State.modifyHead_lists (s : State) (h : HeadId) (f : Head → Head) :
    (s.modifyHead h f).lists = s.lists := rfl
@[simp] theorem State.modifyHead_level1 (s : State) (h : HeadId) (f : Head → Head) :
    (s.modifyHead h f).level1 = s.level1 := rfl
@[simp] theorem State.modifyHead_level2 (s : State) (h : HeadId) (f : Head → Head) :
    (s.modifyHead h f).level2 = s.level2 := rfl
@[simp] theorem State.modifyHead_pass (s : State) (h : HeadId) (f : Head → Head) :
    (s.modifyHead h f).pass = s.pass := rfl
@[simp] theorem State.modifyHead_thermal (s : State) (h : HeadId) (f : Head → Head) :
    (s.modifyHead h f).thermal = s.thermal := rfl
@[simp] theorem State.modifyHead_pending (s : State) (h : HeadId) (f : Head → Head) :
    (s.modifyHead h f).pending = s.pending := rfl

/-! ## modifyThermal -/

@[simp] theorem State.modifyThermal_ports (s : State) (h : HeadId) (f : Thermal → Thermal) :
    (s.modifyThermal h f).ports = s.ports := rfl
@[simp] theorem State.modifyThermal_commissioningOpen (s : State) (h : HeadId) (f : Thermal → Thermal) :
    (s.modifyThermal h f).commissioningOpen = s.commissioningOpen := rfl
@[simp] theorem State.modifyThermal_lineClears (s : State) (h : HeadId) (f : Thermal → Thermal) :
    (s.modifyThermal h f).lineClears = s.lineClears := rfl
@[simp] theorem State.modifyThermal_params (s : State) (h : HeadId) (f : Thermal → Thermal) :
    (s.modifyThermal h f).params = s.params := rfl
@[simp] theorem State.modifyThermal_lines (s : State) (h : HeadId) (f : Thermal → Thermal) :
    (s.modifyThermal h f).lines = s.lines := rfl
@[simp] theorem State.modifyThermal_age (s : State) (h : HeadId) (f : Thermal → Thermal) :
    (s.modifyThermal h f).age = s.age := rfl
@[simp] theorem State.modifyThermal_platens (s : State) (h : HeadId) (f : Thermal → Thermal) :
    (s.modifyThermal h f).platens = s.platens := rfl
@[simp] theorem State.modifyThermal_pretreatQueue (s : State) (h : HeadId) (f : Thermal → Thermal) :
    (s.modifyThermal h f).pretreatQueue = s.pretreatQueue := rfl
@[simp] theorem State.modifyThermal_printQueue (s : State) (h : HeadId) (f : Thermal → Thermal) :
    (s.modifyThermal h f).printQueue = s.printQueue := rfl
@[simp] theorem State.modifyThermal_slot (s : State) (h : HeadId) (f : Thermal → Thermal) :
    (s.modifyThermal h f).slot = s.slot := rfl
@[simp] theorem State.modifyThermal_artworks (s : State) (h : HeadId) (f : Thermal → Thermal) :
    (s.modifyThermal h f).artworks = s.artworks := rfl
@[simp] theorem State.modifyThermal_faults (s : State) (h : HeadId) (f : Thermal → Thermal) :
    (s.modifyThermal h f).faults = s.faults := rfl
@[simp] theorem State.modifyThermal_loadRun (s : State) (h : HeadId) (f : Thermal → Thermal) :
    (s.modifyThermal h f).loadRun = s.loadRun := rfl
@[simp] theorem State.modifyThermal_loadBlock (s : State) (h : HeadId) (f : Thermal → Thermal) :
    (s.modifyThermal h f).loadBlock = s.loadBlock := rfl
@[simp] theorem State.modifyThermal_store (s : State) (h : HeadId) (f : Thermal → Thermal) :
    (s.modifyThermal h f).store = s.store := rfl
@[simp] theorem State.modifyThermal_powerOns (s : State) (h : HeadId) (f : Thermal → Thermal) :
    (s.modifyThermal h f).powerOns = s.powerOns := rfl
@[simp] theorem State.modifyThermal_engine (s : State) (h : HeadId) (f : Thermal → Thermal) :
    (s.modifyThermal h f).engine = s.engine := rfl
@[simp] theorem State.modifyThermal_fabric (s : State) (h : HeadId) (f : Thermal → Thermal) :
    (s.modifyThermal h f).fabric = s.fabric := rfl
@[simp] theorem State.modifyThermal_beds (s : State) (h : HeadId) (f : Thermal → Thermal) :
    (s.modifyThermal h f).beds = s.beds := rfl
@[simp] theorem State.modifyThermal_link (s : State) (h : HeadId) (f : Thermal → Thermal) :
    (s.modifyThermal h f).link = s.link := rfl
@[simp] theorem State.modifyThermal_stripeOut (s : State) (h : HeadId) (f : Thermal → Thermal) :
    (s.modifyThermal h f).stripeOut = s.stripeOut := rfl
@[simp] theorem State.modifyThermal_press (s : State) (h : HeadId) (f : Thermal → Thermal) :
    (s.modifyThermal h f).press = s.press := rfl
@[simp] theorem State.modifyThermal_heads (s : State) (h : HeadId) (f : Thermal → Thermal) :
    (s.modifyThermal h f).heads = s.heads := rfl
@[simp] theorem State.modifyThermal_lists (s : State) (h : HeadId) (f : Thermal → Thermal) :
    (s.modifyThermal h f).lists = s.lists := rfl
@[simp] theorem State.modifyThermal_level1 (s : State) (h : HeadId) (f : Thermal → Thermal) :
    (s.modifyThermal h f).level1 = s.level1 := rfl
@[simp] theorem State.modifyThermal_level2 (s : State) (h : HeadId) (f : Thermal → Thermal) :
    (s.modifyThermal h f).level2 = s.level2 := rfl
@[simp] theorem State.modifyThermal_pass (s : State) (h : HeadId) (f : Thermal → Thermal) :
    (s.modifyThermal h f).pass = s.pass := rfl
@[simp] theorem State.modifyThermal_thermal (s : State) (h : HeadId) (f : Thermal → Thermal) :
    (s.modifyThermal h f).thermal = s.thermal.modify h f := rfl
@[simp] theorem State.modifyThermal_pending (s : State) (h : HeadId) (f : Thermal → Thermal) :
    (s.modifyThermal h f).pending = s.pending := rfl

/-! ## modifyBed -/

@[simp] theorem State.modifyBed_ports (s : State) (bed : Bed) (f : Session → Session) :
    (s.modifyBed bed f).ports = s.ports := rfl
@[simp] theorem State.modifyBed_commissioningOpen (s : State) (bed : Bed) (f : Session → Session) :
    (s.modifyBed bed f).commissioningOpen = s.commissioningOpen := rfl
@[simp] theorem State.modifyBed_lineClears (s : State) (bed : Bed) (f : Session → Session) :
    (s.modifyBed bed f).lineClears = s.lineClears := rfl
@[simp] theorem State.modifyBed_params (s : State) (bed : Bed) (f : Session → Session) :
    (s.modifyBed bed f).params = s.params := rfl
@[simp] theorem State.modifyBed_lines (s : State) (bed : Bed) (f : Session → Session) :
    (s.modifyBed bed f).lines = s.lines := rfl
@[simp] theorem State.modifyBed_age (s : State) (bed : Bed) (f : Session → Session) :
    (s.modifyBed bed f).age = s.age := rfl
@[simp] theorem State.modifyBed_platens (s : State) (bed : Bed) (f : Session → Session) :
    (s.modifyBed bed f).platens = s.platens := rfl
@[simp] theorem State.modifyBed_pretreatQueue (s : State) (bed : Bed) (f : Session → Session) :
    (s.modifyBed bed f).pretreatQueue = s.pretreatQueue := rfl
@[simp] theorem State.modifyBed_printQueue (s : State) (bed : Bed) (f : Session → Session) :
    (s.modifyBed bed f).printQueue = s.printQueue := rfl
@[simp] theorem State.modifyBed_slot (s : State) (bed : Bed) (f : Session → Session) :
    (s.modifyBed bed f).slot = s.slot := rfl
@[simp] theorem State.modifyBed_artworks (s : State) (bed : Bed) (f : Session → Session) :
    (s.modifyBed bed f).artworks = s.artworks := rfl
@[simp] theorem State.modifyBed_faults (s : State) (bed : Bed) (f : Session → Session) :
    (s.modifyBed bed f).faults = s.faults := rfl
@[simp] theorem State.modifyBed_loadRun (s : State) (bed : Bed) (f : Session → Session) :
    (s.modifyBed bed f).loadRun = s.loadRun := rfl
@[simp] theorem State.modifyBed_loadBlock (s : State) (bed : Bed) (f : Session → Session) :
    (s.modifyBed bed f).loadBlock = s.loadBlock := rfl
@[simp] theorem State.modifyBed_store (s : State) (bed : Bed) (f : Session → Session) :
    (s.modifyBed bed f).store = s.store := rfl
@[simp] theorem State.modifyBed_powerOns (s : State) (bed : Bed) (f : Session → Session) :
    (s.modifyBed bed f).powerOns = s.powerOns := rfl
@[simp] theorem State.modifyBed_engine (s : State) (bed : Bed) (f : Session → Session) :
    (s.modifyBed bed f).engine = s.engine := rfl
@[simp] theorem State.modifyBed_fabric (s : State) (bed : Bed) (f : Session → Session) :
    (s.modifyBed bed f).fabric = s.fabric := rfl
@[simp] theorem State.modifyBed_beds (s : State) (bed : Bed) (f : Session → Session) :
    (s.modifyBed bed f).beds = s.beds.modify bed f := rfl
@[simp] theorem State.modifyBed_link (s : State) (bed : Bed) (f : Session → Session) :
    (s.modifyBed bed f).link = s.link := rfl
@[simp] theorem State.modifyBed_stripeOut (s : State) (bed : Bed) (f : Session → Session) :
    (s.modifyBed bed f).stripeOut = s.stripeOut := rfl
@[simp] theorem State.modifyBed_press (s : State) (bed : Bed) (f : Session → Session) :
    (s.modifyBed bed f).press = s.press := rfl
@[simp] theorem State.modifyBed_heads (s : State) (bed : Bed) (f : Session → Session) :
    (s.modifyBed bed f).heads = s.heads := rfl
@[simp] theorem State.modifyBed_lists (s : State) (bed : Bed) (f : Session → Session) :
    (s.modifyBed bed f).lists = s.lists := rfl
@[simp] theorem State.modifyBed_level1 (s : State) (bed : Bed) (f : Session → Session) :
    (s.modifyBed bed f).level1 = s.level1 := rfl
@[simp] theorem State.modifyBed_level2 (s : State) (bed : Bed) (f : Session → Session) :
    (s.modifyBed bed f).level2 = s.level2 := rfl
@[simp] theorem State.modifyBed_pass (s : State) (bed : Bed) (f : Session → Session) :
    (s.modifyBed bed f).pass = s.pass := rfl
@[simp] theorem State.modifyBed_thermal (s : State) (bed : Bed) (f : Session → Session) :
    (s.modifyBed bed f).thermal = s.thermal := rfl
@[simp] theorem State.modifyBed_pending (s : State) (bed : Bed) (f : Session → Session) :
    (s.modifyBed bed f).pending = s.pending := rfl

/-! ## setNotice -/

@[simp] theorem State.setNotice_ports (s : State) (k : NoticeKind) (n : Notice) :
    (s.setNotice k n).ports = s.ports.modify k.port fun ps =>
      { ps with notices := ps.notices.set k.index n } := rfl
@[simp] theorem State.setNotice_commissioningOpen (s : State) (k : NoticeKind) (n : Notice) :
    (s.setNotice k n).commissioningOpen = s.commissioningOpen := rfl
@[simp] theorem State.setNotice_lineClears (s : State) (k : NoticeKind) (n : Notice) :
    (s.setNotice k n).lineClears = s.lineClears := rfl
@[simp] theorem State.setNotice_params (s : State) (k : NoticeKind) (n : Notice) :
    (s.setNotice k n).params = s.params := rfl
@[simp] theorem State.setNotice_lines (s : State) (k : NoticeKind) (n : Notice) :
    (s.setNotice k n).lines = s.lines := rfl
@[simp] theorem State.setNotice_age (s : State) (k : NoticeKind) (n : Notice) :
    (s.setNotice k n).age = s.age := rfl
@[simp] theorem State.setNotice_platens (s : State) (k : NoticeKind) (n : Notice) :
    (s.setNotice k n).platens = s.platens := rfl
@[simp] theorem State.setNotice_pretreatQueue (s : State) (k : NoticeKind) (n : Notice) :
    (s.setNotice k n).pretreatQueue = s.pretreatQueue := rfl
@[simp] theorem State.setNotice_printQueue (s : State) (k : NoticeKind) (n : Notice) :
    (s.setNotice k n).printQueue = s.printQueue := rfl
@[simp] theorem State.setNotice_slot (s : State) (k : NoticeKind) (n : Notice) :
    (s.setNotice k n).slot = s.slot := rfl
@[simp] theorem State.setNotice_artworks (s : State) (k : NoticeKind) (n : Notice) :
    (s.setNotice k n).artworks = s.artworks := rfl
@[simp] theorem State.setNotice_faults (s : State) (k : NoticeKind) (n : Notice) :
    (s.setNotice k n).faults = s.faults := rfl
@[simp] theorem State.setNotice_loadRun (s : State) (k : NoticeKind) (n : Notice) :
    (s.setNotice k n).loadRun = s.loadRun := rfl
@[simp] theorem State.setNotice_loadBlock (s : State) (k : NoticeKind) (n : Notice) :
    (s.setNotice k n).loadBlock = s.loadBlock := rfl
@[simp] theorem State.setNotice_store (s : State) (k : NoticeKind) (n : Notice) :
    (s.setNotice k n).store = s.store := rfl
@[simp] theorem State.setNotice_powerOns (s : State) (k : NoticeKind) (n : Notice) :
    (s.setNotice k n).powerOns = s.powerOns := rfl
@[simp] theorem State.setNotice_engine (s : State) (k : NoticeKind) (n : Notice) :
    (s.setNotice k n).engine = s.engine := rfl
@[simp] theorem State.setNotice_fabric (s : State) (k : NoticeKind) (n : Notice) :
    (s.setNotice k n).fabric = s.fabric := rfl
@[simp] theorem State.setNotice_beds (s : State) (k : NoticeKind) (n : Notice) :
    (s.setNotice k n).beds = s.beds := rfl
@[simp] theorem State.setNotice_link (s : State) (k : NoticeKind) (n : Notice) :
    (s.setNotice k n).link = s.link := rfl
@[simp] theorem State.setNotice_stripeOut (s : State) (k : NoticeKind) (n : Notice) :
    (s.setNotice k n).stripeOut = s.stripeOut := rfl
@[simp] theorem State.setNotice_press (s : State) (k : NoticeKind) (n : Notice) :
    (s.setNotice k n).press = s.press := rfl
@[simp] theorem State.setNotice_heads (s : State) (k : NoticeKind) (n : Notice) :
    (s.setNotice k n).heads = s.heads := rfl
@[simp] theorem State.setNotice_lists (s : State) (k : NoticeKind) (n : Notice) :
    (s.setNotice k n).lists = s.lists := rfl
@[simp] theorem State.setNotice_level1 (s : State) (k : NoticeKind) (n : Notice) :
    (s.setNotice k n).level1 = s.level1 := rfl
@[simp] theorem State.setNotice_level2 (s : State) (k : NoticeKind) (n : Notice) :
    (s.setNotice k n).level2 = s.level2 := rfl
@[simp] theorem State.setNotice_pass (s : State) (k : NoticeKind) (n : Notice) :
    (s.setNotice k n).pass = s.pass := rfl
@[simp] theorem State.setNotice_thermal (s : State) (k : NoticeKind) (n : Notice) :
    (s.setNotice k n).thermal = s.thermal := rfl
@[simp] theorem State.setNotice_pending (s : State) (k : NoticeKind) (n : Notice) :
    (s.setNotice k n).pending = s.pending := rfl

/-! ## raise -/

@[simp] theorem State.raise_ports (s : State) (k : NoticeKind) (d : List Field) :
    (s.raise k d).ports = s.ports.modify k.port fun ps =>
      { ps with notices := ps.notices.set k.index ⟨true, packDetail d⟩ } := rfl
@[simp] theorem State.raise_commissioningOpen (s : State) (k : NoticeKind) (d : List Field) :
    (s.raise k d).commissioningOpen = s.commissioningOpen := rfl
@[simp] theorem State.raise_lineClears (s : State) (k : NoticeKind) (d : List Field) :
    (s.raise k d).lineClears = s.lineClears := rfl
@[simp] theorem State.raise_params (s : State) (k : NoticeKind) (d : List Field) :
    (s.raise k d).params = s.params := rfl
@[simp] theorem State.raise_lines (s : State) (k : NoticeKind) (d : List Field) :
    (s.raise k d).lines = s.lines := rfl
@[simp] theorem State.raise_age (s : State) (k : NoticeKind) (d : List Field) :
    (s.raise k d).age = s.age := rfl
@[simp] theorem State.raise_platens (s : State) (k : NoticeKind) (d : List Field) :
    (s.raise k d).platens = s.platens := rfl
@[simp] theorem State.raise_pretreatQueue (s : State) (k : NoticeKind) (d : List Field) :
    (s.raise k d).pretreatQueue = s.pretreatQueue := rfl
@[simp] theorem State.raise_printQueue (s : State) (k : NoticeKind) (d : List Field) :
    (s.raise k d).printQueue = s.printQueue := rfl
@[simp] theorem State.raise_slot (s : State) (k : NoticeKind) (d : List Field) :
    (s.raise k d).slot = s.slot := rfl
@[simp] theorem State.raise_artworks (s : State) (k : NoticeKind) (d : List Field) :
    (s.raise k d).artworks = s.artworks := rfl
@[simp] theorem State.raise_faults (s : State) (k : NoticeKind) (d : List Field) :
    (s.raise k d).faults = s.faults := rfl
@[simp] theorem State.raise_loadRun (s : State) (k : NoticeKind) (d : List Field) :
    (s.raise k d).loadRun = s.loadRun := rfl
@[simp] theorem State.raise_loadBlock (s : State) (k : NoticeKind) (d : List Field) :
    (s.raise k d).loadBlock = s.loadBlock := rfl
@[simp] theorem State.raise_store (s : State) (k : NoticeKind) (d : List Field) :
    (s.raise k d).store = s.store := rfl
@[simp] theorem State.raise_powerOns (s : State) (k : NoticeKind) (d : List Field) :
    (s.raise k d).powerOns = s.powerOns := rfl
@[simp] theorem State.raise_engine (s : State) (k : NoticeKind) (d : List Field) :
    (s.raise k d).engine = s.engine := rfl
@[simp] theorem State.raise_fabric (s : State) (k : NoticeKind) (d : List Field) :
    (s.raise k d).fabric = s.fabric := rfl
@[simp] theorem State.raise_beds (s : State) (k : NoticeKind) (d : List Field) :
    (s.raise k d).beds = s.beds := rfl
@[simp] theorem State.raise_link (s : State) (k : NoticeKind) (d : List Field) :
    (s.raise k d).link = s.link := rfl
@[simp] theorem State.raise_stripeOut (s : State) (k : NoticeKind) (d : List Field) :
    (s.raise k d).stripeOut = s.stripeOut := rfl
@[simp] theorem State.raise_press (s : State) (k : NoticeKind) (d : List Field) :
    (s.raise k d).press = s.press := rfl
@[simp] theorem State.raise_heads (s : State) (k : NoticeKind) (d : List Field) :
    (s.raise k d).heads = s.heads := rfl
@[simp] theorem State.raise_lists (s : State) (k : NoticeKind) (d : List Field) :
    (s.raise k d).lists = s.lists := rfl
@[simp] theorem State.raise_level1 (s : State) (k : NoticeKind) (d : List Field) :
    (s.raise k d).level1 = s.level1 := rfl
@[simp] theorem State.raise_level2 (s : State) (k : NoticeKind) (d : List Field) :
    (s.raise k d).level2 = s.level2 := rfl
@[simp] theorem State.raise_pass (s : State) (k : NoticeKind) (d : List Field) :
    (s.raise k d).pass = s.pass := rfl
@[simp] theorem State.raise_thermal (s : State) (k : NoticeKind) (d : List Field) :
    (s.raise k d).thermal = s.thermal := rfl
@[simp] theorem State.raise_pending (s : State) (k : NoticeKind) (d : List Field) :
    (s.raise k d).pending = s.pending := rfl

/-! ## setLocation -/

@[simp] theorem State.setLocation_ports (s : State) (i : PlatenIx) (l : Location) :
    (s.setLocation i l).ports = s.ports := rfl
@[simp] theorem State.setLocation_commissioningOpen (s : State) (i : PlatenIx) (l : Location) :
    (s.setLocation i l).commissioningOpen = s.commissioningOpen := rfl
@[simp] theorem State.setLocation_lineClears (s : State) (i : PlatenIx) (l : Location) :
    (s.setLocation i l).lineClears = s.lineClears := rfl
@[simp] theorem State.setLocation_params (s : State) (i : PlatenIx) (l : Location) :
    (s.setLocation i l).params = s.params := rfl
@[simp] theorem State.setLocation_lines (s : State) (i : PlatenIx) (l : Location) :
    (s.setLocation i l).lines = s.lines := rfl
@[simp] theorem State.setLocation_age (s : State) (i : PlatenIx) (l : Location) :
    (s.setLocation i l).age = s.age := rfl
@[simp] theorem State.setLocation_platens (s : State) (i : PlatenIx) (l : Location) :
    (s.setLocation i l).platens = s.platens.modify i fun r => { r with location := l } := rfl
@[simp] theorem State.setLocation_pretreatQueue (s : State) (i : PlatenIx) (l : Location) :
    (s.setLocation i l).pretreatQueue = s.pretreatQueue := rfl
@[simp] theorem State.setLocation_printQueue (s : State) (i : PlatenIx) (l : Location) :
    (s.setLocation i l).printQueue = s.printQueue := rfl
@[simp] theorem State.setLocation_slot (s : State) (i : PlatenIx) (l : Location) :
    (s.setLocation i l).slot = s.slot := rfl
@[simp] theorem State.setLocation_artworks (s : State) (i : PlatenIx) (l : Location) :
    (s.setLocation i l).artworks = s.artworks := rfl
@[simp] theorem State.setLocation_faults (s : State) (i : PlatenIx) (l : Location) :
    (s.setLocation i l).faults = s.faults := rfl
@[simp] theorem State.setLocation_loadRun (s : State) (i : PlatenIx) (l : Location) :
    (s.setLocation i l).loadRun = s.loadRun := rfl
@[simp] theorem State.setLocation_loadBlock (s : State) (i : PlatenIx) (l : Location) :
    (s.setLocation i l).loadBlock = s.loadBlock := rfl
@[simp] theorem State.setLocation_store (s : State) (i : PlatenIx) (l : Location) :
    (s.setLocation i l).store = s.store := rfl
@[simp] theorem State.setLocation_powerOns (s : State) (i : PlatenIx) (l : Location) :
    (s.setLocation i l).powerOns = s.powerOns := rfl
@[simp] theorem State.setLocation_engine (s : State) (i : PlatenIx) (l : Location) :
    (s.setLocation i l).engine = s.engine := rfl
@[simp] theorem State.setLocation_fabric (s : State) (i : PlatenIx) (l : Location) :
    (s.setLocation i l).fabric = s.fabric := rfl
@[simp] theorem State.setLocation_beds (s : State) (i : PlatenIx) (l : Location) :
    (s.setLocation i l).beds = s.beds := rfl
@[simp] theorem State.setLocation_link (s : State) (i : PlatenIx) (l : Location) :
    (s.setLocation i l).link = s.link := rfl
@[simp] theorem State.setLocation_stripeOut (s : State) (i : PlatenIx) (l : Location) :
    (s.setLocation i l).stripeOut = s.stripeOut := rfl
@[simp] theorem State.setLocation_press (s : State) (i : PlatenIx) (l : Location) :
    (s.setLocation i l).press = s.press := rfl
@[simp] theorem State.setLocation_heads (s : State) (i : PlatenIx) (l : Location) :
    (s.setLocation i l).heads = s.heads := rfl
@[simp] theorem State.setLocation_lists (s : State) (i : PlatenIx) (l : Location) :
    (s.setLocation i l).lists = s.lists := rfl
@[simp] theorem State.setLocation_level1 (s : State) (i : PlatenIx) (l : Location) :
    (s.setLocation i l).level1 = s.level1 := rfl
@[simp] theorem State.setLocation_level2 (s : State) (i : PlatenIx) (l : Location) :
    (s.setLocation i l).level2 = s.level2 := rfl
@[simp] theorem State.setLocation_pass (s : State) (i : PlatenIx) (l : Location) :
    (s.setLocation i l).pass = s.pass := rfl
@[simp] theorem State.setLocation_thermal (s : State) (i : PlatenIx) (l : Location) :
    (s.setLocation i l).thermal = s.thermal := rfl
@[simp] theorem State.setLocation_pending (s : State) (i : PlatenIx) (l : Location) :
    (s.setLocation i l).pending = s.pending := rfl

/-! ## modifyTicket -/

@[simp] theorem State.modifyTicket_ports (s : State) (i : PlatenIx) (f : Ticket → Ticket) :
    (s.modifyTicket i f).ports = s.ports := rfl
@[simp] theorem State.modifyTicket_commissioningOpen (s : State) (i : PlatenIx) (f : Ticket → Ticket) :
    (s.modifyTicket i f).commissioningOpen = s.commissioningOpen := rfl
@[simp] theorem State.modifyTicket_lineClears (s : State) (i : PlatenIx) (f : Ticket → Ticket) :
    (s.modifyTicket i f).lineClears = s.lineClears := rfl
@[simp] theorem State.modifyTicket_params (s : State) (i : PlatenIx) (f : Ticket → Ticket) :
    (s.modifyTicket i f).params = s.params := rfl
@[simp] theorem State.modifyTicket_lines (s : State) (i : PlatenIx) (f : Ticket → Ticket) :
    (s.modifyTicket i f).lines = s.lines := rfl
@[simp] theorem State.modifyTicket_age (s : State) (i : PlatenIx) (f : Ticket → Ticket) :
    (s.modifyTicket i f).age = s.age := rfl
@[simp] theorem State.modifyTicket_platens (s : State) (i : PlatenIx) (f : Ticket → Ticket) :
    (s.modifyTicket i f).platens = s.platens.modify i fun r => { r with ticket := r.ticket.map f } := rfl
@[simp] theorem State.modifyTicket_pretreatQueue (s : State) (i : PlatenIx) (f : Ticket → Ticket) :
    (s.modifyTicket i f).pretreatQueue = s.pretreatQueue := rfl
@[simp] theorem State.modifyTicket_printQueue (s : State) (i : PlatenIx) (f : Ticket → Ticket) :
    (s.modifyTicket i f).printQueue = s.printQueue := rfl
@[simp] theorem State.modifyTicket_slot (s : State) (i : PlatenIx) (f : Ticket → Ticket) :
    (s.modifyTicket i f).slot = s.slot := rfl
@[simp] theorem State.modifyTicket_artworks (s : State) (i : PlatenIx) (f : Ticket → Ticket) :
    (s.modifyTicket i f).artworks = s.artworks := rfl
@[simp] theorem State.modifyTicket_faults (s : State) (i : PlatenIx) (f : Ticket → Ticket) :
    (s.modifyTicket i f).faults = s.faults := rfl
@[simp] theorem State.modifyTicket_loadRun (s : State) (i : PlatenIx) (f : Ticket → Ticket) :
    (s.modifyTicket i f).loadRun = s.loadRun := rfl
@[simp] theorem State.modifyTicket_loadBlock (s : State) (i : PlatenIx) (f : Ticket → Ticket) :
    (s.modifyTicket i f).loadBlock = s.loadBlock := rfl
@[simp] theorem State.modifyTicket_store (s : State) (i : PlatenIx) (f : Ticket → Ticket) :
    (s.modifyTicket i f).store = s.store := rfl
@[simp] theorem State.modifyTicket_powerOns (s : State) (i : PlatenIx) (f : Ticket → Ticket) :
    (s.modifyTicket i f).powerOns = s.powerOns := rfl
@[simp] theorem State.modifyTicket_engine (s : State) (i : PlatenIx) (f : Ticket → Ticket) :
    (s.modifyTicket i f).engine = s.engine := rfl
@[simp] theorem State.modifyTicket_fabric (s : State) (i : PlatenIx) (f : Ticket → Ticket) :
    (s.modifyTicket i f).fabric = s.fabric := rfl
@[simp] theorem State.modifyTicket_beds (s : State) (i : PlatenIx) (f : Ticket → Ticket) :
    (s.modifyTicket i f).beds = s.beds := rfl
@[simp] theorem State.modifyTicket_link (s : State) (i : PlatenIx) (f : Ticket → Ticket) :
    (s.modifyTicket i f).link = s.link := rfl
@[simp] theorem State.modifyTicket_stripeOut (s : State) (i : PlatenIx) (f : Ticket → Ticket) :
    (s.modifyTicket i f).stripeOut = s.stripeOut := rfl
@[simp] theorem State.modifyTicket_press (s : State) (i : PlatenIx) (f : Ticket → Ticket) :
    (s.modifyTicket i f).press = s.press := rfl
@[simp] theorem State.modifyTicket_heads (s : State) (i : PlatenIx) (f : Ticket → Ticket) :
    (s.modifyTicket i f).heads = s.heads := rfl
@[simp] theorem State.modifyTicket_lists (s : State) (i : PlatenIx) (f : Ticket → Ticket) :
    (s.modifyTicket i f).lists = s.lists := rfl
@[simp] theorem State.modifyTicket_level1 (s : State) (i : PlatenIx) (f : Ticket → Ticket) :
    (s.modifyTicket i f).level1 = s.level1 := rfl
@[simp] theorem State.modifyTicket_level2 (s : State) (i : PlatenIx) (f : Ticket → Ticket) :
    (s.modifyTicket i f).level2 = s.level2 := rfl
@[simp] theorem State.modifyTicket_pass (s : State) (i : PlatenIx) (f : Ticket → Ticket) :
    (s.modifyTicket i f).pass = s.pass := rfl
@[simp] theorem State.modifyTicket_thermal (s : State) (i : PlatenIx) (f : Ticket → Ticket) :
    (s.modifyTicket i f).thermal = s.thermal := rfl
@[simp] theorem State.modifyTicket_pending (s : State) (i : PlatenIx) (f : Ticket → Ticket) :
    (s.modifyTicket i f).pending = s.pending := rfl

/-! ## modifySegment -/

@[simp] theorem State.modifySegment_ports (s : State) (a : ArtIx) (g : SegIx) (f : Segment → Segment) :
    (s.modifySegment a g f).ports = s.ports := rfl
@[simp] theorem State.modifySegment_commissioningOpen (s : State) (a : ArtIx) (g : SegIx) (f : Segment → Segment) :
    (s.modifySegment a g f).commissioningOpen = s.commissioningOpen := rfl
@[simp] theorem State.modifySegment_lineClears (s : State) (a : ArtIx) (g : SegIx) (f : Segment → Segment) :
    (s.modifySegment a g f).lineClears = s.lineClears := rfl
@[simp] theorem State.modifySegment_params (s : State) (a : ArtIx) (g : SegIx) (f : Segment → Segment) :
    (s.modifySegment a g f).params = s.params := rfl
@[simp] theorem State.modifySegment_lines (s : State) (a : ArtIx) (g : SegIx) (f : Segment → Segment) :
    (s.modifySegment a g f).lines = s.lines := rfl
@[simp] theorem State.modifySegment_age (s : State) (a : ArtIx) (g : SegIx) (f : Segment → Segment) :
    (s.modifySegment a g f).age = s.age := rfl
@[simp] theorem State.modifySegment_platens (s : State) (a : ArtIx) (g : SegIx) (f : Segment → Segment) :
    (s.modifySegment a g f).platens = s.platens := rfl
@[simp] theorem State.modifySegment_pretreatQueue (s : State) (a : ArtIx) (g : SegIx) (f : Segment → Segment) :
    (s.modifySegment a g f).pretreatQueue = s.pretreatQueue := rfl
@[simp] theorem State.modifySegment_printQueue (s : State) (a : ArtIx) (g : SegIx) (f : Segment → Segment) :
    (s.modifySegment a g f).printQueue = s.printQueue := rfl
@[simp] theorem State.modifySegment_slot (s : State) (a : ArtIx) (g : SegIx) (f : Segment → Segment) :
    (s.modifySegment a g f).slot = s.slot := rfl
@[simp] theorem State.modifySegment_artworks (s : State) (a : ArtIx) (g : SegIx) (f : Segment → Segment) :
    (s.modifySegment a g f).artworks = s.artworks.modify a fun e =>
      { e with segs := e.segs.modify g f } := rfl
@[simp] theorem State.modifySegment_faults (s : State) (a : ArtIx) (g : SegIx) (f : Segment → Segment) :
    (s.modifySegment a g f).faults = s.faults := rfl
@[simp] theorem State.modifySegment_loadRun (s : State) (a : ArtIx) (g : SegIx) (f : Segment → Segment) :
    (s.modifySegment a g f).loadRun = s.loadRun := rfl
@[simp] theorem State.modifySegment_loadBlock (s : State) (a : ArtIx) (g : SegIx) (f : Segment → Segment) :
    (s.modifySegment a g f).loadBlock = s.loadBlock := rfl
@[simp] theorem State.modifySegment_store (s : State) (a : ArtIx) (g : SegIx) (f : Segment → Segment) :
    (s.modifySegment a g f).store = s.store := rfl
@[simp] theorem State.modifySegment_powerOns (s : State) (a : ArtIx) (g : SegIx) (f : Segment → Segment) :
    (s.modifySegment a g f).powerOns = s.powerOns := rfl
@[simp] theorem State.modifySegment_engine (s : State) (a : ArtIx) (g : SegIx) (f : Segment → Segment) :
    (s.modifySegment a g f).engine = s.engine := rfl
@[simp] theorem State.modifySegment_fabric (s : State) (a : ArtIx) (g : SegIx) (f : Segment → Segment) :
    (s.modifySegment a g f).fabric = s.fabric := rfl
@[simp] theorem State.modifySegment_beds (s : State) (a : ArtIx) (g : SegIx) (f : Segment → Segment) :
    (s.modifySegment a g f).beds = s.beds := rfl
@[simp] theorem State.modifySegment_link (s : State) (a : ArtIx) (g : SegIx) (f : Segment → Segment) :
    (s.modifySegment a g f).link = s.link := rfl
@[simp] theorem State.modifySegment_stripeOut (s : State) (a : ArtIx) (g : SegIx) (f : Segment → Segment) :
    (s.modifySegment a g f).stripeOut = s.stripeOut := rfl
@[simp] theorem State.modifySegment_press (s : State) (a : ArtIx) (g : SegIx) (f : Segment → Segment) :
    (s.modifySegment a g f).press = s.press := rfl
@[simp] theorem State.modifySegment_heads (s : State) (a : ArtIx) (g : SegIx) (f : Segment → Segment) :
    (s.modifySegment a g f).heads = s.heads := rfl
@[simp] theorem State.modifySegment_lists (s : State) (a : ArtIx) (g : SegIx) (f : Segment → Segment) :
    (s.modifySegment a g f).lists = s.lists := rfl
@[simp] theorem State.modifySegment_level1 (s : State) (a : ArtIx) (g : SegIx) (f : Segment → Segment) :
    (s.modifySegment a g f).level1 = s.level1 := rfl
@[simp] theorem State.modifySegment_level2 (s : State) (a : ArtIx) (g : SegIx) (f : Segment → Segment) :
    (s.modifySegment a g f).level2 = s.level2 := rfl
@[simp] theorem State.modifySegment_pass (s : State) (a : ArtIx) (g : SegIx) (f : Segment → Segment) :
    (s.modifySegment a g f).pass = s.pass := rfl
@[simp] theorem State.modifySegment_thermal (s : State) (a : ArtIx) (g : SegIx) (f : Segment → Segment) :
    (s.modifySegment a g f).thermal = s.thermal := rfl
@[simp] theorem State.modifySegment_pending (s : State) (a : ArtIx) (g : SegIx) (f : Segment → Segment) :
    (s.modifySegment a g f).pending = s.pending := rfl

/-! ## setList -/

@[simp] theorem State.setList_ports (s : State) (l : RackList) (q : List PlatenIx) :
    (s.setList l q).ports = s.ports := rfl
@[simp] theorem State.setList_commissioningOpen (s : State) (l : RackList) (q : List PlatenIx) :
    (s.setList l q).commissioningOpen = s.commissioningOpen := rfl
@[simp] theorem State.setList_lineClears (s : State) (l : RackList) (q : List PlatenIx) :
    (s.setList l q).lineClears = s.lineClears := rfl
@[simp] theorem State.setList_params (s : State) (l : RackList) (q : List PlatenIx) :
    (s.setList l q).params = s.params := rfl
@[simp] theorem State.setList_lines (s : State) (l : RackList) (q : List PlatenIx) :
    (s.setList l q).lines = s.lines := rfl
@[simp] theorem State.setList_age (s : State) (l : RackList) (q : List PlatenIx) :
    (s.setList l q).age = s.age := rfl
@[simp] theorem State.setList_platens (s : State) (l : RackList) (q : List PlatenIx) :
    (s.setList l q).platens = s.platens := rfl
@[simp] theorem State.setList_pretreatQueue (s : State) (l : RackList) (q : List PlatenIx) :
    (s.setList l q).pretreatQueue = s.pretreatQueue := rfl
@[simp] theorem State.setList_printQueue (s : State) (l : RackList) (q : List PlatenIx) :
    (s.setList l q).printQueue = s.printQueue := rfl
@[simp] theorem State.setList_slot (s : State) (l : RackList) (q : List PlatenIx) :
    (s.setList l q).slot = s.slot := rfl
@[simp] theorem State.setList_artworks (s : State) (l : RackList) (q : List PlatenIx) :
    (s.setList l q).artworks = s.artworks := rfl
@[simp] theorem State.setList_faults (s : State) (l : RackList) (q : List PlatenIx) :
    (s.setList l q).faults = s.faults := rfl
@[simp] theorem State.setList_loadRun (s : State) (l : RackList) (q : List PlatenIx) :
    (s.setList l q).loadRun = s.loadRun := rfl
@[simp] theorem State.setList_loadBlock (s : State) (l : RackList) (q : List PlatenIx) :
    (s.setList l q).loadBlock = s.loadBlock := rfl
@[simp] theorem State.setList_store (s : State) (l : RackList) (q : List PlatenIx) :
    (s.setList l q).store = s.store := rfl
@[simp] theorem State.setList_powerOns (s : State) (l : RackList) (q : List PlatenIx) :
    (s.setList l q).powerOns = s.powerOns := rfl
@[simp] theorem State.setList_engine (s : State) (l : RackList) (q : List PlatenIx) :
    (s.setList l q).engine = s.engine := rfl
@[simp] theorem State.setList_fabric (s : State) (l : RackList) (q : List PlatenIx) :
    (s.setList l q).fabric = s.fabric := rfl
@[simp] theorem State.setList_beds (s : State) (l : RackList) (q : List PlatenIx) :
    (s.setList l q).beds = s.beds := rfl
@[simp] theorem State.setList_link (s : State) (l : RackList) (q : List PlatenIx) :
    (s.setList l q).link = s.link := rfl
@[simp] theorem State.setList_stripeOut (s : State) (l : RackList) (q : List PlatenIx) :
    (s.setList l q).stripeOut = s.stripeOut := rfl
@[simp] theorem State.setList_press (s : State) (l : RackList) (q : List PlatenIx) :
    (s.setList l q).press = s.press := rfl
@[simp] theorem State.setList_heads (s : State) (l : RackList) (q : List PlatenIx) :
    (s.setList l q).heads = s.heads := rfl
@[simp] theorem State.setList_lists (s : State) (l : RackList) (q : List PlatenIx) :
    (s.setList l q).lists = s.lists.set l q := rfl
@[simp] theorem State.setList_level1 (s : State) (l : RackList) (q : List PlatenIx) :
    (s.setList l q).level1 = s.level1 := rfl
@[simp] theorem State.setList_level2 (s : State) (l : RackList) (q : List PlatenIx) :
    (s.setList l q).level2 = s.level2 := rfl
@[simp] theorem State.setList_pass (s : State) (l : RackList) (q : List PlatenIx) :
    (s.setList l q).pass = s.pass := rfl
@[simp] theorem State.setList_thermal (s : State) (l : RackList) (q : List PlatenIx) :
    (s.setList l q).thermal = s.thermal := rfl
@[simp] theorem State.setList_pending (s : State) (l : RackList) (q : List PlatenIx) :
    (s.setList l q).pending = s.pending := rfl

/-! ## finish -/

@[simp] theorem State.finish_ports (s : State) (p : Port) (a : Answer) (e : Option Word) :
    (s.finish p a e).ports = s.ports.modify p fun ps =>
      { ps with selectAsserted := false, receiver := none, driven := replyBits ps.sent,
                reply := ⟨false, .none, a.result, a.data⟩, ext := e } := rfl
@[simp] theorem State.finish_commissioningOpen (s : State) (p : Port) (a : Answer) (e : Option Word) :
    (s.finish p a e).commissioningOpen = s.commissioningOpen := rfl
@[simp] theorem State.finish_lineClears (s : State) (p : Port) (a : Answer) (e : Option Word) :
    (s.finish p a e).lineClears = s.lineClears := rfl
@[simp] theorem State.finish_params (s : State) (p : Port) (a : Answer) (e : Option Word) :
    (s.finish p a e).params = s.params := rfl
@[simp] theorem State.finish_lines (s : State) (p : Port) (a : Answer) (e : Option Word) :
    (s.finish p a e).lines = s.lines := rfl
@[simp] theorem State.finish_age (s : State) (p : Port) (a : Answer) (e : Option Word) :
    (s.finish p a e).age = s.age := rfl
@[simp] theorem State.finish_platens (s : State) (p : Port) (a : Answer) (e : Option Word) :
    (s.finish p a e).platens = s.platens := rfl
@[simp] theorem State.finish_pretreatQueue (s : State) (p : Port) (a : Answer) (e : Option Word) :
    (s.finish p a e).pretreatQueue = s.pretreatQueue := rfl
@[simp] theorem State.finish_printQueue (s : State) (p : Port) (a : Answer) (e : Option Word) :
    (s.finish p a e).printQueue = s.printQueue := rfl
@[simp] theorem State.finish_slot (s : State) (p : Port) (a : Answer) (e : Option Word) :
    (s.finish p a e).slot = s.slot := rfl
@[simp] theorem State.finish_artworks (s : State) (p : Port) (a : Answer) (e : Option Word) :
    (s.finish p a e).artworks = s.artworks := rfl
@[simp] theorem State.finish_faults (s : State) (p : Port) (a : Answer) (e : Option Word) :
    (s.finish p a e).faults = s.faults := rfl
@[simp] theorem State.finish_loadRun (s : State) (p : Port) (a : Answer) (e : Option Word) :
    (s.finish p a e).loadRun = s.loadRun := rfl
@[simp] theorem State.finish_loadBlock (s : State) (p : Port) (a : Answer) (e : Option Word) :
    (s.finish p a e).loadBlock = s.loadBlock := rfl
@[simp] theorem State.finish_store (s : State) (p : Port) (a : Answer) (e : Option Word) :
    (s.finish p a e).store = s.store := rfl
@[simp] theorem State.finish_powerOns (s : State) (p : Port) (a : Answer) (e : Option Word) :
    (s.finish p a e).powerOns = s.powerOns := rfl
@[simp] theorem State.finish_engine (s : State) (p : Port) (a : Answer) (e : Option Word) :
    (s.finish p a e).engine = s.engine := rfl
@[simp] theorem State.finish_fabric (s : State) (p : Port) (a : Answer) (e : Option Word) :
    (s.finish p a e).fabric = s.fabric := rfl
@[simp] theorem State.finish_beds (s : State) (p : Port) (a : Answer) (e : Option Word) :
    (s.finish p a e).beds = s.beds := rfl
@[simp] theorem State.finish_link (s : State) (p : Port) (a : Answer) (e : Option Word) :
    (s.finish p a e).link = s.link := rfl
@[simp] theorem State.finish_stripeOut (s : State) (p : Port) (a : Answer) (e : Option Word) :
    (s.finish p a e).stripeOut = s.stripeOut := rfl
@[simp] theorem State.finish_press (s : State) (p : Port) (a : Answer) (e : Option Word) :
    (s.finish p a e).press = s.press := rfl
@[simp] theorem State.finish_heads (s : State) (p : Port) (a : Answer) (e : Option Word) :
    (s.finish p a e).heads = s.heads := rfl
@[simp] theorem State.finish_lists (s : State) (p : Port) (a : Answer) (e : Option Word) :
    (s.finish p a e).lists = s.lists := rfl
@[simp] theorem State.finish_level1 (s : State) (p : Port) (a : Answer) (e : Option Word) :
    (s.finish p a e).level1 = s.level1 := rfl
@[simp] theorem State.finish_level2 (s : State) (p : Port) (a : Answer) (e : Option Word) :
    (s.finish p a e).level2 = s.level2 := rfl
@[simp] theorem State.finish_pass (s : State) (p : Port) (a : Answer) (e : Option Word) :
    (s.finish p a e).pass = s.pass := rfl
@[simp] theorem State.finish_thermal (s : State) (p : Port) (a : Answer) (e : Option Word) :
    (s.finish p a e).thermal = s.thermal := rfl
@[simp] theorem State.finish_pending (s : State) (p : Port) (a : Answer) (e : Option Word) :
    (s.finish p a e).pending = s.pending := rfl

/-! ## assertSelect -/

@[simp] theorem State.assertSelect_ports (s : State) (p : Port) :
    (s.assertSelect p).ports = s.ports.modify p fun ps =>
      { ps with
        selectAsserted := true
        receiver := some Receiver.start
        sent := some (replyFrame ps.reply ps.attention s.commissioningOpen)
        driven := [] } := rfl
@[simp] theorem State.assertSelect_commissioningOpen (s : State) (p : Port) :
    (s.assertSelect p).commissioningOpen = s.commissioningOpen := rfl
@[simp] theorem State.assertSelect_lineClears (s : State) (p : Port) :
    (s.assertSelect p).lineClears = s.lineClears := rfl
@[simp] theorem State.assertSelect_params (s : State) (p : Port) :
    (s.assertSelect p).params = s.params := rfl
@[simp] theorem State.assertSelect_lines (s : State) (p : Port) :
    (s.assertSelect p).lines = s.lines := rfl
@[simp] theorem State.assertSelect_age (s : State) (p : Port) :
    (s.assertSelect p).age = s.age := rfl
@[simp] theorem State.assertSelect_platens (s : State) (p : Port) :
    (s.assertSelect p).platens = s.platens := rfl
@[simp] theorem State.assertSelect_pretreatQueue (s : State) (p : Port) :
    (s.assertSelect p).pretreatQueue = s.pretreatQueue := rfl
@[simp] theorem State.assertSelect_printQueue (s : State) (p : Port) :
    (s.assertSelect p).printQueue = s.printQueue := rfl
@[simp] theorem State.assertSelect_slot (s : State) (p : Port) :
    (s.assertSelect p).slot = s.slot := rfl
@[simp] theorem State.assertSelect_artworks (s : State) (p : Port) :
    (s.assertSelect p).artworks = s.artworks := rfl
@[simp] theorem State.assertSelect_faults (s : State) (p : Port) :
    (s.assertSelect p).faults = s.faults := rfl
@[simp] theorem State.assertSelect_loadRun (s : State) (p : Port) :
    (s.assertSelect p).loadRun = s.loadRun := rfl
@[simp] theorem State.assertSelect_loadBlock (s : State) (p : Port) :
    (s.assertSelect p).loadBlock = s.loadBlock := rfl
@[simp] theorem State.assertSelect_store (s : State) (p : Port) :
    (s.assertSelect p).store = s.store := rfl
@[simp] theorem State.assertSelect_powerOns (s : State) (p : Port) :
    (s.assertSelect p).powerOns = s.powerOns := rfl
@[simp] theorem State.assertSelect_engine (s : State) (p : Port) :
    (s.assertSelect p).engine = s.engine := rfl
@[simp] theorem State.assertSelect_fabric (s : State) (p : Port) :
    (s.assertSelect p).fabric = s.fabric := rfl
@[simp] theorem State.assertSelect_beds (s : State) (p : Port) :
    (s.assertSelect p).beds = s.beds := rfl
@[simp] theorem State.assertSelect_link (s : State) (p : Port) :
    (s.assertSelect p).link = s.link := rfl
@[simp] theorem State.assertSelect_stripeOut (s : State) (p : Port) :
    (s.assertSelect p).stripeOut = s.stripeOut := rfl
@[simp] theorem State.assertSelect_press (s : State) (p : Port) :
    (s.assertSelect p).press = s.press := rfl
@[simp] theorem State.assertSelect_heads (s : State) (p : Port) :
    (s.assertSelect p).heads = s.heads := rfl
@[simp] theorem State.assertSelect_lists (s : State) (p : Port) :
    (s.assertSelect p).lists = s.lists := rfl
@[simp] theorem State.assertSelect_level1 (s : State) (p : Port) :
    (s.assertSelect p).level1 = s.level1 := rfl
@[simp] theorem State.assertSelect_level2 (s : State) (p : Port) :
    (s.assertSelect p).level2 = s.level2 := rfl
@[simp] theorem State.assertSelect_pass (s : State) (p : Port) :
    (s.assertSelect p).pass = s.pass := rfl
@[simp] theorem State.assertSelect_thermal (s : State) (p : Port) :
    (s.assertSelect p).thermal = s.thermal := rfl
@[simp] theorem State.assertSelect_pending (s : State) (p : Port) :
    (s.assertSelect p).pending = s.pending := rfl

/-! ## endFrame -/

@[simp] theorem State.endFrame_ports (s : State) (p : Port) (r : Reply) :
    (s.endFrame p r).ports = s.ports.modify p fun ps =>
      { ps with selectAsserted := false, receiver := none, reply := r } := rfl
@[simp] theorem State.endFrame_commissioningOpen (s : State) (p : Port) (r : Reply) :
    (s.endFrame p r).commissioningOpen = s.commissioningOpen := rfl
@[simp] theorem State.endFrame_lineClears (s : State) (p : Port) (r : Reply) :
    (s.endFrame p r).lineClears = s.lineClears := rfl
@[simp] theorem State.endFrame_params (s : State) (p : Port) (r : Reply) :
    (s.endFrame p r).params = s.params := rfl
@[simp] theorem State.endFrame_lines (s : State) (p : Port) (r : Reply) :
    (s.endFrame p r).lines = s.lines := rfl
@[simp] theorem State.endFrame_age (s : State) (p : Port) (r : Reply) :
    (s.endFrame p r).age = s.age := rfl
@[simp] theorem State.endFrame_platens (s : State) (p : Port) (r : Reply) :
    (s.endFrame p r).platens = s.platens := rfl
@[simp] theorem State.endFrame_pretreatQueue (s : State) (p : Port) (r : Reply) :
    (s.endFrame p r).pretreatQueue = s.pretreatQueue := rfl
@[simp] theorem State.endFrame_printQueue (s : State) (p : Port) (r : Reply) :
    (s.endFrame p r).printQueue = s.printQueue := rfl
@[simp] theorem State.endFrame_slot (s : State) (p : Port) (r : Reply) :
    (s.endFrame p r).slot = s.slot := rfl
@[simp] theorem State.endFrame_artworks (s : State) (p : Port) (r : Reply) :
    (s.endFrame p r).artworks = s.artworks := rfl
@[simp] theorem State.endFrame_faults (s : State) (p : Port) (r : Reply) :
    (s.endFrame p r).faults = s.faults := rfl
@[simp] theorem State.endFrame_loadRun (s : State) (p : Port) (r : Reply) :
    (s.endFrame p r).loadRun = s.loadRun := rfl
@[simp] theorem State.endFrame_loadBlock (s : State) (p : Port) (r : Reply) :
    (s.endFrame p r).loadBlock = s.loadBlock := rfl
@[simp] theorem State.endFrame_store (s : State) (p : Port) (r : Reply) :
    (s.endFrame p r).store = s.store := rfl
@[simp] theorem State.endFrame_powerOns (s : State) (p : Port) (r : Reply) :
    (s.endFrame p r).powerOns = s.powerOns := rfl
@[simp] theorem State.endFrame_engine (s : State) (p : Port) (r : Reply) :
    (s.endFrame p r).engine = s.engine := rfl
@[simp] theorem State.endFrame_fabric (s : State) (p : Port) (r : Reply) :
    (s.endFrame p r).fabric = s.fabric := rfl
@[simp] theorem State.endFrame_beds (s : State) (p : Port) (r : Reply) :
    (s.endFrame p r).beds = s.beds := rfl
@[simp] theorem State.endFrame_link (s : State) (p : Port) (r : Reply) :
    (s.endFrame p r).link = s.link := rfl
@[simp] theorem State.endFrame_stripeOut (s : State) (p : Port) (r : Reply) :
    (s.endFrame p r).stripeOut = s.stripeOut := rfl
@[simp] theorem State.endFrame_press (s : State) (p : Port) (r : Reply) :
    (s.endFrame p r).press = s.press := rfl
@[simp] theorem State.endFrame_heads (s : State) (p : Port) (r : Reply) :
    (s.endFrame p r).heads = s.heads := rfl
@[simp] theorem State.endFrame_lists (s : State) (p : Port) (r : Reply) :
    (s.endFrame p r).lists = s.lists := rfl
@[simp] theorem State.endFrame_level1 (s : State) (p : Port) (r : Reply) :
    (s.endFrame p r).level1 = s.level1 := rfl
@[simp] theorem State.endFrame_level2 (s : State) (p : Port) (r : Reply) :
    (s.endFrame p r).level2 = s.level2 := rfl
@[simp] theorem State.endFrame_pass (s : State) (p : Port) (r : Reply) :
    (s.endFrame p r).pass = s.pass := rfl
@[simp] theorem State.endFrame_thermal (s : State) (p : Port) (r : Reply) :
    (s.endFrame p r).thermal = s.thermal := rfl
@[simp] theorem State.endFrame_pending (s : State) (p : Port) (r : Reply) :
    (s.endFrame p r).pending = s.pending := rfl

end Machine

end Sys2Proof
end

