-- ==== Sys2Proof/Laws/Ops.lean ====
section
/-! SUPPORT. What each shared operation of the machine can do, said once. -/

namespace Sys2Proof.Machine

open Sys2Proof

/-! ## Taking a frame -/

/-- A frame in progress is judged in the state as it stands (R168). -/
theorem State.openFrame_of_receiving {s : State} {p : Port}
    (h : (s.ports.get p).receiver.isSome = true) : s.openFrame p = some s := by
  obtain ⟨r, hr⟩ := Option.isSome_iff_exists.mp h
  simp [State.openFrame, hr]

/-- A taken frame: its block carries the command out, and the answer is left pending (R168, R171,
R173). -/
theorem takeFrame_taken {c : Cmd} {p : Port} {body : Body} {s : State}
    (h : (s.ports.get p).receiver.isSome = true) (ha : c.acceptedOn p = true) :
    takeFrame c p body s = .next ((body s).2.finish p (body s).1 none) := by
  simp [takeFrame, State.openFrame_of_receiving h, ha]

/-- A frame whose command the port's role does not accept: its reply bits are driven out and nothing
else is done (R168, R170, R172). -/
theorem takeFrame_role {c : Cmd} {p : Port} {body : Body} {s : State}
    (h : (s.ports.get p).receiver.isSome = true) (ha : c.acceptedOn p = false) :
    takeFrame c p body s = .next ((s.driveReply p).refuseFrame p .role) := by
  simp [takeFrame, State.openFrame_of_receiving h, ha]

/-- All that a command frame can do: end nothing, be taken, or be refused. -/
theorem takeFrame_cases {c : Cmd} {p : Port} {body : Body} {s t : State}
    (h : takeFrame c p body s = .next t) :
    t = s.releaseSelect p ∨
      ∃ s1, s.openFrame p = some s1 ∧
        ((c.acceptedOn p = true ∧ t = (body s1).2.finish p (body s1).1 none) ∨
          (c.acceptedOn p = false ∧ t = (s1.driveReply p).refuseFrame p .role)) := by
  unfold takeFrame at h
  split at h
  · cases h; exact .inl rfl
  · rename_i s1 hs
    refine .inr ⟨s1, hs, ?_⟩
    split at h
    · cases h; exact .inl ⟨‹_›, rfl⟩
    · cases h; exact .inr ⟨Bool.eq_false_iff.mpr ‹_›, rfl⟩

/-- A command frame always goes on. -/
theorem takeFrame_next (c : Cmd) (p : Port) (body : Body) (s : State) :
    ∃ t, takeFrame c p body s = .next t := by
  unfold takeFrame
  split
  · exact ⟨_, rfl⟩
  · split <;> exact ⟨_, rfl⟩

/-- The state in which a frame is judged differs from the present one at its port alone. -/
theorem State.openFrame_cases {s s1 : State} {p : Port} (h : s.openFrame p = some s1) :
    s1 = s ∨ s1 = s.assertSelect p := by
  simp only [State.openFrame] at h
  split at h
  · cases h; exact .inl rfl
  · split at h
    · cases h
    · cases h; exact .inr rfl

/-! ## The clock edges of a frame (R168) -/

/-- Clock edges shift the bits into the receiver and drive the reply bits that come next. -/
theorem PortState.clock_foldl (bits : List Bool) (ps : PortState) :
    bits.foldl PortState.clock ps =
      { ps with
        receiver := ps.receiver.map fun r => bits.foldl Receiver.edge r
        driven := ps.driven ++
          (List.range' ps.driven.length bits.length).map (replyBit ps.sent) } := by
  induction bits generalizing ps with
  | nil => cases ps; simp
  | cons b bits ih =>
    rw [List.foldl_cons, ih]
    cases hr : ps.receiver <;> simp [PortState.clock, List.range'_succ, hr]

/-! ## The load link (R73, R74, R183) -/

/-- A bad block ends the open run that it belongs to, and changes nothing else. -/
theorem State.judgeBad_cases (s : State) (b : LoadBlock) :
    s.judgeBad b = s ∨
      ∃ r, s.loadRun = some r ∧ b.inRun = true ∧ s.judgeBad b = s.endLoadRun r .linkError := by
  unfold State.judgeBad
  split
  · split
    · exact .inr ⟨_, ‹_›, ‹_›, rfl⟩
    · exact .inl rfl
  · exact .inl rfl

/-- A block with its check word: nothing outside an open run; in one, a step of it, or a bad block. -/
theorem State.judgeComplete_cases (s : State) (b : LoadBlock) (c : Word) :
    s.judgeComplete b c = s ∨
      ∃ r, s.loadRun = some r ∧ b.inRun = true ∧
        ((∃ h, s.judgeComplete b c = s.judgeGood r ⟨b.words, h⟩) ∨
          s.judgeComplete b c = s.endLoadRun r .linkError) := by
  unfold State.judgeComplete
  split
  · rename_i r hr
    split
    · rename_i hb
      refine .inr ⟨r, hr, hb, ?_⟩
      split
      · exact .inl ⟨(‹_ ∧ _› : _ ∧ _).1, rfl⟩
      · exact .inr rfl
    · exact .inl rfl
  · exact .inl rfl

/-- All that one word on the load link can do: nothing, begin a block, be held, complete a block, or end
one early. -/
theorem State.linkWord_cases (s : State) (w : LinkWord) :
    s.linkWord w = s ∨ s.linkWord w = s.beginBlock ∨
      ∃ b, s.loadBlock = some b ∧
        ((∃ x, s.linkWord w = { s with loadBlock := some { b with words := b.words ++ [x] } }) ∨
          (∃ x, s.linkWord w = ({ s with loadBlock := none } : State).judgeComplete b x) ∨
          s.linkWord w = (({ s with loadBlock := none } : State).judgeBad b).beginBlock ∨
          s.linkWord w = ({ s with loadBlock := none } : State).judgeBad b) := by
  unfold State.linkWord
  cases s.loadBlock with
  | none =>
    rcases w with x | k | _
    · exact .inl rfl
    · cases k <;> first | exact .inl rfl | exact .inr (.inl rfl)
    · exact .inl rfl
  | some b =>
    refine .inr (.inr ⟨b, rfl, ?_⟩)
    rcases w with x | k | _
    · dsimp only
      split
      · exact .inl ⟨x, rfl⟩
      · exact .inr (.inl ⟨x, rfl⟩)
    · cases k <;> first | exact .inr (.inr (.inr rfl)) | exact .inr (.inr (.inl rfl))
    · exact .inr (.inr (.inr rfl))

/-! ## The stripe link (R116, R183) -/

/-- IDLE goes out where an event leaves the link free, and nothing else changes. -/
theorem State.idleFrom_cases (s before : State) :
    s.idleFrom before = s ∨
      ((before.link.sending.isSome = true ∧ s.link.sending.isNone = true) ∧
        s.idleFrom before = { s with stripeOut := s.stripeOut ++ [.idle] }) := by
  unfold State.idleFrom
  split
  · rename_i h
    exact .inr ⟨Bool.and_eq_true_iff.mp h, rfl⟩
  · exact .inl rfl

/-- A cut touches the link and its output alone. -/
theorem State.cutSend_cases (s : State) (bed : Bed) :
    s.cutSend bed = s ∨
      ∃ k, s.link.sending = some k ∧ k.bed = bed ∧
        s.cutSend bed =
          { s with
            link := { s.link with sending := none }
            stripeOut := s.stripeOut ++ s.cutWords k } := by
  unfold State.cutSend
  split
  · split
    · exact .inr ⟨_, ‹_›, ‹_›, rfl⟩
    · exact .inl rfl
  · exact .inl rfl

/-! ## The store -/

theorem Memory.insert_mem {m : Memory} {b : Nat} {x : Block} {e : Nat × Block}
    (h : e ∈ Memory.insert m b x) : e = (b, x) ∨ e ∈ m := by
  induction m with
  | nil => simpa [Memory.insert] using h
  | cons hd tl ih =>
    obtain ⟨c, y⟩ := hd
    simp only [Memory.insert] at h
    split at h
    · simpa using h
    · split at h
      · rcases List.mem_cons.mp h with rfl | h
        · exact .inl rfl
        · exact .inr (List.mem_cons_of_mem _ h)
      · rcases List.mem_cons.mp h with rfl | h
        · exact .inr (List.mem_cons_self ..)
        · exact (ih h).imp id (List.mem_cons_of_mem _)

theorem Memory.insert_rising {m : Memory} (b : Nat) (x : Block)
    (h : m.Pairwise (fun u v => u.1 < v.1)) :
    (Memory.insert m b x).Pairwise (fun u v => u.1 < v.1) := by
  induction m with
  | nil => simp [Memory.insert]
  | cons hd tl ih =>
    obtain ⟨c, y⟩ := hd
    rw [List.pairwise_cons] at h
    simp only [Memory.insert]
    split
    · rename_i hb
      refine List.pairwise_cons.mpr ⟨?_, List.pairwise_cons.mpr h⟩
      intro e he
      rcases List.mem_cons.mp he with rfl | he
      · exact hb
      · exact Nat.lt_trans hb (h.1 e he)
    · split
      · rename_i hb
        exact List.pairwise_cons.mpr ⟨fun e he => hb ▸ h.1 e he, h.2⟩
      · refine List.pairwise_cons.mpr ⟨?_, ih h.2⟩
        intro e he
        rcases Memory.insert_mem he with rfl | he
        · simp only; omega
        · exact h.1 e he

/-- A write keeps the canonical form. -/
theorem Memory.write_wf {m : Memory} (b : Nat) (x : Block) (h : Memory.wf m) :
    Memory.wf (Memory.write m b x) := by
  unfold Memory.write
  split
  · rename_i hb
    refine ⟨Memory.insert_rising b x h.1, ?_⟩
    intro e he
    rcases Memory.insert_mem he with rfl | he
    · exact hb
    · exact h.2 e he
  · exact h

/-- The empty store has the canonical form. -/
theorem Memory.nil_wf : Memory.wf [] := by simp [Memory.wf]

theorem Memory.block_insert_self (m : Memory) (b : Nat) (x : Block) :
    Memory.block (Memory.insert m b x) b = some x := by
  induction m with
  | nil => simp [Memory.insert, Memory.block]
  | cons hd tl ih =>
    obtain ⟨c, y⟩ := hd
    simp only [Memory.insert]
    split
    · simp [Memory.block]
    · split
      · simp [Memory.block]
      · rename_i h1 h2
        have h3 : c ≠ b := fun e => h2 e.symm
        simp [Memory.block, h3, ih]

theorem Memory.block_insert_ne (m : Memory) {b d : Nat} (x : Block) (h : d ≠ b) :
    Memory.block (Memory.insert m b x) d = Memory.block m d := by
  induction m with
  | nil => simp [Memory.insert, Memory.block, h.symm]
  | cons hd tl ih =>
    obtain ⟨c, y⟩ := hd
    simp only [Memory.insert]
    split
    · simp [Memory.block, h.symm]
    · split
      · rename_i hb
        subst hb
        simp [Memory.block, h.symm]
      · simp [Memory.block, ih]

/-- A block reads as it was last written (R57). -/
theorem Memory.block_write_self (m : Memory) {b : Nat} (x : Block) (h : b < Config.storeBlocks) :
    Memory.block (Memory.write m b x) b = some x := by
  simp [Memory.write, h, Memory.block_insert_self]

/-- A write leaves every other block alone. -/
theorem Memory.block_write_ne (m : Memory) {b d : Nat} (x : Block) (h : d ≠ b) :
    Memory.block (Memory.write m b x) d = Memory.block m d := by
  unfold Memory.write
  split
  · exact Memory.block_insert_ne m x h
  · rfl

/-! ## Order lines, tickets, faults -/

/-- A change of a line: the line with its state derived again, and LINE_DONE where it enters DONE. -/
theorem State.updateLine_cases (s : State) (i : LineIx) (f : OrderLine → OrderLine) :
    s.updateLine i f = { s with lines := s.lines.set i (f (s.lines.get i)).rederive } ∨
      (((f (s.lines.get i)).rederive.state = .done ∧ (s.lines.get i).state ≠ .done) ∧
        s.updateLine i f =
          ({ s with lines := s.lines.set i (f (s.lines.get i)).rederive }).raise .lineDone
            [(8, i.val), (3, (f (s.lines.get i)).rederive.lineNo.toNat), (1, 0),
             (4, (f (s.lines.get i)).rederive.finished)]) := by
  simp only [State.updateLine]
  split
  · exact .inr ⟨‹_›, rfl⟩
  · exact .inl rfl

/-- A spoil decision: nothing, or a GOOD ticket made SPOILED with its reason and GARMENT_SPOILED
(R26). -/
theorem State.spoil_cases (s : State) (i : PlatenIx) (why : SpoilReason) :
    s.spoil i why = s ∨
      ∃ t, s.ticket i = some t ∧ t.disposition = .good ∧
        s.spoil i why =
          (s.modifyTicket i fun t => { t with disposition := .spoiled, reason := some why }).raise
            .garmentSpoiled [(6, i.val), (2, 0), (8, t.line.val), (3, reasonCode (some why))] := by
  unfold State.spoil
  cases ht : s.ticket i with
  | none => exact .inl rfl
  | some t =>
    by_cases hd : t.disposition = .good
    · refine .inr ⟨t, rfl, hd, ?_⟩
      simp [hd]
    · simp [hd]

/-- A recorded fault: a frozen record gains OVERRUN, an empty one freezes and its notice is raised
(R64). -/
theorem State.recordFault_cases (s : State) (side : Side) (flags : AccessFlags) (o : FaultOrigin)
    (a : ArtIx) (g : SegIx) (at_ : AccessBlock) (bed : Bed) :
    (s.recordFault side flags o a g at_ bed =
        { s with faults := s.faults.set side { s.faults.get side with overrun := true } }) ∨
      ∃ r d, r.frozen = true ∧
        s.recordFault side flags o a g at_ bed =
          ({ s with faults := s.faults.set side r }).raise (faultKind side) d := by
  unfold State.recordFault
  by_cases h : (s.faults.get side).frozen = true
  · simp [h]
  · exact .inr ⟨_, _, rfl, by simp only [h, Bool.false_eq_true, if_false]; rfl⟩

/-! ## Mailboxes -/

/-- A mailbox's contents and its notice change together (R134). -/
theorem State.setMailbox_cases (s : State) (h : HeadId) (m : Option Assignment) :
    ∃ n : Notice, n.pending = m.isSome ∧
      s.setMailbox h m = (s.modifyHead h fun d => { d with mailbox := m }).setNotice (.assignment h) n := by
  cases m with
  | none => exact ⟨⟨false, 0⟩, rfl, rfl⟩
  | some a => exact ⟨⟨true, _⟩, rfl, rfl⟩

/-- A posting leaves the slot empty only where a pending CLOSE_ON meets a RELEASE (R133). -/
theorem mergePost_none {held : Option Assignment} {a : Assignment} (h : mergePost held a = none) :
    (∃ p c sp ch, held = some (.closeOn p c sp ch)) ∧ a = .release := by
  cases held with
  | none => cases a <;> simp [mergePost] at h
  | some x => (cases x <;> cases a <;> simp [mergePost] at h); simp

/-! ## The Arbiter -/

/-- One turn of a grant evaluation: nothing, or the platen at the head of the selected list to the
chosen head (R131). -/
theorem State.grantOnce_cases (s : State) :
    s.grantOnce = s ∨
      ∃ l p rest h, selectList s = some l ∧ s.lists.get l = p :: rest ∧
        chooseHead s (listClass l) = some h ∧ s.grantOnce = s.grant l p rest h := by
  unfold State.grantOnce
  split
  · exact .inl rfl
  · rename_i l hl
    split
    · rename_i p rest h hq hh
      exact .inr ⟨l, p, rest, h, hl, hq, hh, rfl⟩
    · exact .inl rfl

/-- A chosen head is eligible (R131). -/
theorem chooseHead_eligible {s : State} {k : PassClass} {h : HeadId} (hc : chooseHead s k = some h) :
    s.eligible h = true := by
  unfold chooseHead at hc
  split at hc
  · cases hc; simp_all
  · split at hc
    · cases hc; simp_all
    · split at hc
      · cases hc; assumption
      · split at hc
        · cases hc; assumption
        · cases hc

/-- Parking within an event: nothing, or the head parks (R142). -/
theorem State.parkIfDue_cases (s : State) (h : HeadId) :
    s.parkIfDue h = s ∨
      ((s.heads.get h).state = .free ∧ (s.heads.get h).timer = some ⟨.park, 0⟩ ∧
        s.parkIfDue h = s.parkNow h) := by
  unfold State.parkIfDue
  split
  · exact .inr ⟨‹_ ∧ _›.1, ‹_ ∧ _›.2, rfl⟩
  · exact .inl rfl

/-- A head without a platen becomes DECLINING or FREE (R137). -/
theorem State.freeHead_cases (s : State) (h : HeadId) :
    ((s.heads.get h).declinePending = true ∧
        s.freeHead h =
          s.modifyHead h fun d => { d.emptied with state := .declining, declinePending := false }) ∨
      ((s.heads.get h).declinePending = false ∧
        s.freeHead h = (s.modifyHead h fun d => { d.emptied with state := .free }).startPark h) := by
  unfold State.freeHead
  by_cases hd : (s.heads.get h).declinePending = true
  · exact .inl ⟨hd, by simp [hd]⟩
  · simp only [Bool.not_eq_true] at hd
    exact .inr ⟨hd, by simp [hd]⟩

/-- A held platen goes to TRANSIT or to the head of its origin list (R137). -/
theorem State.sendPlaten_cases (s : State) (h : HeadId) (o : PressOutcome) :
    s.sendPlaten h o = s ∨
      ∃ p, (s.heads.get h).platen = some p ∧
        (s.sendPlaten h o = s.setLocation p .transit ∨
          s.sendPlaten h o = s.joinHead (s.heads.get h).origin p) := by
  unfold State.sendPlaten
  cases hp : (s.heads.get h).platen with
  | none => exact .inl rfl
  | some p => cases o <;> simp

/-- Where no head is eligible, an evaluation grants nothing (R131). -/
theorem State.grantEval_of_none {s : State} (h0 : s.eligible .h0 = false) (h1 : s.eligible .h1 = false) :
    s.grantEval = s := by
  have hc : ∀ k, chooseHead s k = none := by intro k; simp [chooseHead, h0, h1]
  have hg : s.grantOnce = s := by
    unfold State.grantOnce
    split
    · rfl
    · simp [hc]
  simp [State.grantEval, hg]

/-- Where every list is empty, an evaluation grants nothing (R131). -/
theorem State.grantEval_of_empty {s : State} (h : s.lists = ⟨[], [], [], []⟩) : s.grantEval = s := by
  have hsel : selectList s = none := by
    unfold selectList selectRotate selectFixed selectDry
    rw [h]
    cases s.press.mode <;> cases s.level1 <;> cases s.level2 <;> simp
  have hg : s.grantOnce = s := by simp [State.grantOnce, hsel]
  simp [State.grantEval, hg]

end Sys2Proof.Machine
end

