-- ==== Sys2Proof/Laws/PerInstr.lean ====
section
/-! SUPPORT. Statements made per command: the fields of the request that carries a command name that
command again. -/

namespace Sys2Proof.Laws

open Sys2Proof

/-- The request of a command, read back by its fields, is the command (section 11.2, R182). -/
def Carried.Statement (i : Instr) : Prop :=
  ∀ r, i.request = some r → Instr.ofFields r.cmd r.port r.sFlag r.sel r.arg = i

theorem Carried.selectAssertion (p : Port) : Carried.Statement (.selectAssertion p) := by
  intro r h
  cases h

theorem Carried.frameRefused (p : Port) (bits : List Bool) : Carried.Statement (.frameRefused p bits) := by
  intro r h
  cases h

theorem Carried.fullReset (cause : ResetCause) : Carried.Statement (.fullReset cause) := by
  intro r h
  cases h

theorem Carried.nop (p : Port) : Carried.Statement (.nop p) := by
  intro r h
  cases h
  rfl

theorem Carried.extend (p : Port) (arg : Arg) : Carried.Statement (.extend p arg) := by
  intro r h
  cases h
  rfl

theorem Carried.readId (p : Port) : Carried.Statement (.readId p) := by
  intro r h
  cases h
  rfl

theorem Carried.fetchNotice (p : Port) : Carried.Statement (.fetchNotice p) := by
  intro r h
  cases h
  rfl

theorem Carried.noticeMaskRead (p : Port) : Carried.Statement (.noticeMaskRead p) := by
  intro r h
  cases h
  rfl

theorem Carried.noticeMaskWrite (p : Port) (arg : Arg) : Carried.Statement (.noticeMaskWrite p arg) := by
  intro r h
  cases h
  rfl

theorem Carried.readPlaten (p : Port) (sel : Selector) (arg : Arg) : Carried.Statement (.readPlaten p sel arg) := by
  intro r h
  cases h
  rfl

theorem Carried.postLine (sel : Selector) (arg : Arg) : Carried.Statement (.postLine sel arg) := by
  intro r h
  cases h
  rfl

theorem Carried.amendLine (arg : Arg) : Carried.Statement (.amendLine arg) := by
  intro r h
  cases h
  rfl

theorem Carried.holdLine (arg : Arg) : Carried.Statement (.holdLine arg) := by
  intro r h
  cases h
  rfl

theorem Carried.cancelLine (arg : Arg) : Carried.Statement (.cancelLine arg) := by
  intro r h
  cases h
  rfl

theorem Carried.retireLine (arg : Arg) : Carried.Statement (.retireLine arg) := by
  intro r h
  cases h
  rfl

theorem Carried.readLine (sel : Selector) (arg : Arg) : Carried.Statement (.readLine sel arg) := by
  intro r h
  cases h
  rfl

theorem Carried.loadScan (sel : Selector) (arg : Arg) : Carried.Statement (.loadScan sel arg) := by
  intro r h
  cases h
  rfl

theorem Carried.unload (sel : Selector) : Carried.Statement (.unload sel) := by
  intro r h
  cases h
  rfl

theorem Carried.artworkOpen (sel : Selector) : Carried.Statement (.artworkOpen sel) := by
  intro r h
  cases h
  rfl

theorem Carried.segmentSet (sel : Selector) (arg : Arg) : Carried.Statement (.segmentSet sel arg) := by
  intro r h
  cases h
  rfl

theorem Carried.segmentDrop (sel : Selector) (arg : Arg) : Carried.Statement (.segmentDrop sel arg) := by
  intro r h
  cases h
  rfl

theorem Carried.artworkDelete (sel : Selector) : Carried.Statement (.artworkDelete sel) := by
  intro r h
  cases h
  rfl

theorem Carried.loadRun (sel : Selector) (arg : Arg) : Carried.Statement (.loadRun sel arg) := by
  intro r h
  cases h
  rfl

theorem Carried.loadAbort : Carried.Statement (.loadAbort) := by
  intro r h
  cases h
  rfl

theorem Carried.readWord (sel : Selector) (arg : Arg) : Carried.Statement (.readWord sel arg) := by
  intro r h
  cases h
  rfl

theorem Carried.preflightStart (sel : Selector) (arg : Arg) : Carried.Statement (.preflightStart sel arg) := by
  intro r h
  cases h
  rfl

theorem Carried.preflightAbandon : Carried.Statement (.preflightAbandon) := by
  intro r h
  cases h
  rfl

theorem Carried.restoreHead (sel : Selector) : Carried.Statement (.restoreHead sel) := by
  intro r h
  cases h
  rfl

theorem Carried.configRead (sel : Selector) (arg : Arg) : Carried.Statement (.configRead sel arg) := by
  intro r h
  cases h
  rfl

theorem Carried.configWrite (sel : Selector) (arg : Arg) : Carried.Statement (.configWrite sel arg) := by
  intro r h
  cases h
  rfl

theorem Carried.closeCommissioning : Carried.Statement (.closeCommissioning) := by
  intro r h
  cases h
  rfl

theorem Carried.lineClear : Carried.Statement (.lineClear) := by
  intro r h
  cases h
  rfl

theorem Carried.clearFault (p : Port) (sel : Selector) : Carried.Statement (.clearFault p sel) := by
  intro r h
  cases h
  rfl

theorem Carried.readFault (p : Port) (sel : Selector) (arg : Arg) : Carried.Statement (.readFault p sel arg) := by
  intro r h
  cases h
  rfl

theorem Carried.readArtwork (p : Port) (sel : Selector) (arg : Arg) : Carried.Statement (.readArtwork p sel arg) := by
  intro r h
  cases h
  rfl

theorem Carried.readPreflight (p : Port) (sel : Selector) (arg : Arg) : Carried.Statement (.readPreflight p sel arg) := by
  intro r h
  cases h
  rfl

theorem Carried.readBed (p : Port) (sel : Selector) (arg : Arg) : Carried.Statement (.readBed p sel arg) := by
  intro r h
  cases h
  rfl

theorem Carried.readPress (p : Port) (sel : Selector) (arg : Arg) : Carried.Statement (.readPress p sel arg) := by
  intro r h
  cases h
  rfl

theorem Carried.readThermal (p : Port) (sel : Selector) (arg : Arg) : Carried.Statement (.readThermal p sel arg) := by
  intro r h
  cases h
  rfl

theorem Carried.arrive (p : Port) (sel : Selector) : Carried.Statement (.arrive p sel) := by
  intro r h
  cases h
  rfl

theorem Carried.pretreatStart (sel : Selector) : Carried.Statement (.pretreatStart sel) := by
  intro r h
  cases h
  rfl

theorem Carried.pretreatDone (sel : Selector) (arg : Arg) : Carried.Statement (.pretreatDone sel arg) := by
  intro r h
  cases h
  rfl

theorem Carried.printStart (sel : Selector) (arg : Arg) : Carried.Statement (.printStart sel arg) := by
  intro r h
  cases h
  rfl

theorem Carried.stripe (sel : Selector) (arg : Arg) : Carried.Statement (.stripe sel arg) := by
  intro r h
  cases h
  rfl

theorem Carried.stripeCut (sel : Selector) : Carried.Statement (.stripeCut sel) := by
  intro r h
  cases h
  rfl

theorem Carried.printEnd (sel : Selector) (arg : Arg) : Carried.Statement (.printEnd sel arg) := by
  intro r h
  cases h
  rfl

theorem Carried.takeAssignment (sel : Selector) : Carried.Statement (.takeAssignment sel) := by
  intro r h
  cases h
  rfl

theorem Carried.pressClosed (sel : Selector) : Carried.Statement (.pressClosed sel) := by
  intro r h
  cases h
  rfl

theorem Carried.pressSample (sel : Selector) (arg : Arg) : Carried.Statement (.pressSample sel arg) := by
  intro r h
  cases h
  rfl

theorem Carried.pressOpened (sel : Selector) : Carried.Statement (.pressOpened sel) := by
  intro r h
  cases h
  rfl

theorem Carried.headDecline (sel : Selector) (arg : Arg) : Carried.Statement (.headDecline sel arg) := by
  intro r h
  cases h
  rfl

theorem Carried.closeTimerExpiry (h : HeadId) : Carried.Statement (.closeTimerExpiry h) := by
  intro r h
  cases h

theorem Carried.sampleTimerExpiry (h : HeadId) : Carried.Statement (.sampleTimerExpiry h) := by
  intro r h
  cases h

theorem Carried.releaseTimerExpiry (h : HeadId) : Carried.Statement (.releaseTimerExpiry h) := by
  intro r h
  cases h

theorem Carried.parkTimerExpiry (h : HeadId) : Carried.Statement (.parkTimerExpiry h) := by
  intro r h
  cases h

theorem Carried.loadLinkBlock (first : LinkWord) (more : List LinkWord) :
    Carried.Statement (.loadLinkBlock first more) := by
  intro r h
  cases h

theorem Carried.preflightBlockRead : Carried.Statement (.preflightBlockRead) := by
  intro r h
  cases h

theorem Carried.stripeSendComplete : Carried.Statement (.stripeSendComplete) := by
  intro r h
  cases h

end Sys2Proof.Laws
end

