-- ==== Sys2Proof/Tests/Slice0.lean ====
section
/-! SUPPORT. Tests: a refused ill-formed term for each check of WellFormed, frames written out from the
encodings of section 11.2, worked figures of the spec, and a state and operands that meet the hypotheses
of each statement. Expected values come from the spec's sections named in the comments. -/

namespace Sys2Proof.Tests

open Sys2Proof Sys2Proof.Machine

/- The tests are elaborated one after another: many kernel checks waiting side by side would ask for
more threads than a limited memory gives. -/
set_option Elab.async false

/-! ## WellFormed -/

theorem test_wellFormed_refuses_wrong_role : (Instr.arrive .order 3).wellFormed = false := by decide +kernel
theorem test_wellFormed_refuses_good_frame_as_refused :
    (Instr.frameRefused .order (frameBits 0x020000000000FD#56)).wellFormed = false := by decide +kernel
theorem test_wellFormed_accepts_arrive : (Instr.arrive .press 3).wellFormed = true := by decide +kernel

/-! ## Frames, by the bit positions and codes of section 11.2 -/

/-- Section 10.2.1. -/
theorem test_check_code_of_zeros :
    checkCode 0 = 0xAF#8 ∧
      ((bitsOf48 0).take 8).foldl crcStep 0xFF#8 = 0xF3#8 ∧
      ((bitsOf48 0).take 16).foldl crcStep 0xFF#8 = 0xD7#8 ∧
      ((bitsOf48 0).take 40).foldl crcStep 0xFF#8 = 0x39#8 := by decide +kernel

/-- What a frame decodes to, as a comparable value. -/
def decodesTo (p : Port) (f : BitVec 56) : RefusalReason ⊕ Instr :=
  match decodeFrame p f with
  | .error why => .inl why
  | .ok i => .inr i

theorem test_decode_readId : decodesTo .press 0x020000000000FD#56 = .inr (.readId .press) := by decide +kernel
theorem test_decode_noticeMaskWrite :
    decodesTo .print 0x0480000000FF6F#56 = .inr (.noticeMaskWrite .print 0xFF) := by decide +kernel
theorem test_decode_postLine :
    decodesTo .order 0x101A0000004D3A#56 = .inr (.postLine 0x1A 77) := by decide +kernel
theorem test_decode_loadScan :
    decodesTo .order 0x160500441800F8#56 = .inr (.loadScan 5 0x00441800) := by decide +kernel
theorem test_decode_segmentSet :
    decodesTo .order 0x19032050A00003#56 = .inr (.segmentSet 3 0x2050A000) := by decide +kernel
theorem test_decode_configWrite :
    decodesTo .order 0x22B4000100A08A#56 = .inr (.configWrite 0x34 0x000100A0) := by decide +kernel
theorem test_decode_readFault :
    decodesTo .print 0x31018000000070#56 = .inr (.readFault .print 1 0x80000000) := by decide +kernel
theorem test_decode_readPress :
    decodesTo .order 0x38030000000DC0#56 = .inr (.readPress .order 3 0x0D) := by decide +kernel
theorem test_decode_arrive : decodesTo .print 0x400700000000F0#56 = .inr (.arrive .print 7) := by decide +kernel
theorem test_decode_pretreatDone :
    decodesTo .pretreat 0x51040000012C30#56 = .inr (.pretreatDone 4 300) := by decide +kernel
theorem test_decode_stripe :
    decodesTo .print 0x61013005F8007C#56 = .inr (.stripe 1 0x3005F800) := by decide +kernel
theorem test_decode_pressSample :
    decodesTo .press 0x7201000000AF08#56 = .inr (.pressSample 1 175) := by decide +kernel
theorem test_decode_wrong_role : decodesTo .order 0x400700000000F0#56 = .inl .role := by decide +kernel
theorem test_decode_wrong_check : decodesTo .press 0x020000000000FC#56 = .inl .check := by decide +kernel

/-! ## Worked figures -/

/-- The table of R155 at the CURE defaults. -/
theorem test_credit_increments_cure :
    creditIncrement PassRow.cureDefault 148 = 0 ∧ creditIncrement PassRow.cureDefault 154 = 22 ∧
      creditIncrement PassRow.cureDefault 163 = 41 ∧ creditIncrement PassRow.cureDefault 165 = 48 ∧
      creditIncrement PassRow.cureDefault 171 = 70 ∧ creditIncrement PassRow.cureDefault 175 = 96 ∧
      creditIncrement PassRow.cureDefault 201 = 563 ∧
      creditIncrement PassRow.cureDefault 209 = 972 ∧ creditIncrement PassRow.cureDefault 255 = 972 := by
  decide +kernel

/-- R155 at the DRY defaults. -/
theorem test_credit_increments_dry :
    creditIncrement PassRow.dryDefault 120 = 16 ∧ creditIncrement PassRow.dryDefault 140 = 64 := by
  decide +kernel

/-- The largest values of R120. -/
theorem test_cure_target_saturates :
    cureTargetOf { FabricRow.default_ with cbase := 60000, wet := 255 } 49152 49152 2000 = 65535 := by
  decide +kernel

/-- R131 and R142: after a full reset both heads park when the park delay has elapsed (R147). -/
theorem test_park_timer_starts_at_reset :
    State.reset.heads.h1.timer = some ⟨.park, 10000⟩ ∧ State.reset.heads.h1.state = .free := by decide +kernel

/-! ## Helpers -/

/-- The part after reset with a frame in progress on a port. -/
def framed (p : Port) : State := State.reset.assertSelect p

/-- An order line that is OPEN with one garment wanted, on artwork 0. -/
def openLine : OrderLine := { OrderLine.free with state := .open_, orderRef := 9, wanted := 1 }

/-- A GOOD ticket at a stage, with a dose. -/
def ticketAt (stage : Stage) : Ticket :=
  { line := 0, serial := 1, artwork := 0, fabric := 0, shade := .dark, priority := .rush, lc := 0,
    lw := 0, dose := 150, applied := 0, sprays := 1, dryTarget := some 16, dryCredit := 0,
    cureTarget := some 16, cureCredit := 0, presses := 0, scorches := 0, headRetries := 0,
    stage := stage, disposition := .good, reason := none }

/-- Platen 47 put at a location with a ticket, the platen count at 48. -/
def withPlaten (s : State) (l : Location) (t : Option Ticket) : State :=
  { s with params := { s.params with platenCount := 48 }
           platens := s.platens.set 47 ⟨l, t, 0⟩ }

/-- Artwork 63 given a record. -/
def withArt (s : State) (e : Artwork) : State := { s with artworks := s.artworks.set 63 e }

/-- An artwork being loaded whose segment 15 is printable and writable. -/
def loading : Artwork :=
  { Artwork.free with
    state := .loading
    segs := (Table.replicate 16 Segment.nonResident).set 15
      { Segment.nonResident with resident := true, len := 2, loadKey := .readWrite, printKey := .read } }

/-- Head 1 given a record. -/
def withHead (s : State) (d : Head) : State := { s with heads := { s.heads with h1 := d } }

/-- Head 1 at work on platen 47. -/
def atWork (state : HeadState) (timer : Option Timer) (slot : Option Assignment) : Head :=
  { Head.reset with state := state, platen := some 47, closeOnTaken := true, timer := timer,
                    mailbox := slot }

/-- Head 1 CLOSED on platen 47 in a CURE cycle of `n` samples, on a ticket. -/
def curing (n : Nat) (t : Ticket) : State :=
  let s := withPlaten (withHead (framed .press) (atWork .closed (some ⟨.sample, 9⟩) none)) (.head .h1)
    (some t)
  { s with thermal := { s.thermal with h1 := ⟨160, true, 47, .cure, n, .none, 2⟩ } }

/-- Bed B ACTIVE with platen 47, and a run. -/
def printing (t : Ticket) (run : Option StripeRun) : State :=
  let s := withPlaten (withArt (framed .print) { loading with state := .ready }) (.bed .b) (some t)
  { s with beds := { s.beds with b := ⟨true, 47, 63, 0, 0, run⟩ } }

/-- A load run open on segment 15 of artwork 63. -/
def loadingRun (first written : Nat) : State :=
  { withArt (framed .order) loading with loadRun := some ⟨63, 15, first, 3, written⟩ }

/-- The result and the data of the reply that a command leaves pending. -/
def asks (i : Instr) (p : Port) (s : State) : Option (Result × Word) :=
  match exec i s with
  | .next t => some ((t.ports.get p).reply.result, (t.ports.get p).reply.data)
  | _ => none

/-! ## One step each -/

/-- R179. -/
theorem test_readId : asks (.readId .print) .print (framed .print) = some (.ok, 0x24801) := by decide +kernel
/-- R173. -/
theorem test_extend : asks (.extend .order 5) .order (framed .order) = some (.ok, 5) := by decide +kernel
/-- R21 needs a line; with none the scan is NO_MATCH with count 0. -/
theorem test_loadScan_no_match :
    asks (.loadScan 3 0) .order (framed .order) = some (.noMatch, 0) := by decide +kernel
/-- R111, check 1: bed 2 names no bed. -/
theorem test_printStart_no_bed :
    asks (.printStart 2 0) .print (framed .print) = some (.notFound, 0) := by decide +kernel
/-- R153 and R155: at 175 degrees a CURE sample earns 96, which meets a target of 16: COMPLETE with the
setpoint at 160. -/
theorem test_pressSample_completes :
    asks (.pressSample 1 175) .press (curing 0 (ticketAt .printed)) =
      some (.ok, BitVec.ofNat 32 (96 + 160 * 2 ^ 16 + 2 ^ 24)) := by decide +kernel
/-- R174: a ceiling of 0 is held to the default setpoint of its column. -/
theorem test_configWrite_ceiling_held :
    asks (.configWrite 0x35 0x00010000) .order (framed .order) = some (.clamped, 160) := by decide +kernel
/-- R174: a read of the platen count's default. -/
theorem test_configRead_platenCount :
    asks (.configRead 0x01 0) .order (framed .order) = some (.ok, 24) := by decide +kernel
/-- R145, R147: group ROTATION after reset. -/
theorem test_readPress_rotation :
    asks (.readPress .press 4 0) .press (framed .press) = some (.ok, 0b1100) := by decide +kernel
/-- R180. -/
theorem test_lineClear_counts : asks .lineClear .order (framed .order) = some (.ok, 1) := by decide +kernel
/-- R175. -/
theorem test_closeCommissioning :
    asks .closeCommissioning .order (framed .order) = some (.ok, 1) := by decide +kernel

/-- What a command leaves of the load link: the open run and the block in progress. -/
def linkAfter (i : Instr) (s : State) : Option (Option LoadRun × Option LoadBlock) :=
  match exec i s with
  | .next t => some (t.loadRun, t.loadBlock)
  | _ => none

/-- R183: a start marker before the check word ends the block early as a bad block, and begins a new
one; the run has ended LINK_ERROR (R74), so that the new block belongs to none. -/
theorem test_loadLink_early_start :
    linkAfter (.loadLinkBlock (.control .start) [.data 5, .control .start]) (loadingRun 0 0) =
      some (none, some ⟨[], false⟩) := by decide +kernel
/-- R183: data outside a block is discarded. -/
theorem test_loadLink_data_outside :
    linkAfter (.loadLinkBlock (.data 5) [.control .idle]) (loadingRun 0 0) =
      some (some ⟨63, 15, 0, 3, 0⟩, none) := by decide +kernel
/-- R168, R171: the reply latched after a full reset holds no answer, so that of its status byte the CO
bit alone is driven out as 1; over a NOP 56 bits are driven. -/
theorem test_reply_is_driven :
    (match exec (.nop .order) (framed .order) with
      | .next t => some ((t.ports.get .order).driven.length, (t.ports.get .order).driven.take 8)
      | _ => none) = some (56, [false, false, false, false, false, true, false, false]) := by
  decide +kernel

/-- Head 1 ASSIGNED with its CLOSE_ON untaken, and a park delay. -/
def untaken (delay : Nat) : State :=
  let d : Head :=
    { atWork .assigned (some ⟨.close, 9⟩) (some (.closeOn 47 .cure 160 false)) with closeOnTaken := false }
  let s := withHead (framed .order) d
  { s with press := { s.press with parkDelay := delay } }

/-- R133, R142, R146: at park delay 0 a head whose untaken CLOSE_ON vanishes at LINE_CLEAR parks within
the event with a PARK posted; at delay 1 it stays FREE with its park timer at 1 s. -/
theorem test_lineClear_parks :
    (match exec .lineClear (untaken 0) with
      | .next t => some (t.heads.h1.state, t.heads.h1.timer, t.heads.h1.mailbox)
      | _ => none) = some (.parked, none, some (.park .cure 160)) ∧
    (match exec .lineClear (untaken 1) with
      | .next t => some (t.heads.h1.state, t.heads.h1.timer, t.heads.h1.mailbox)
      | _ => none) = some (.free, some ⟨.park, 1000⟩, none) := by decide +kernel

/-! ## Witnesses: a state and operands that meet the hypotheses of each statement, clause by clause -/

/-- Selectors and arguments of the witnesses: platen 47, and 48. -/
abbrev p47 : Selector := 47
abbrev p48 : Selector := 48

theorem witness_IdleStepCountsTimers :
    State.reset.pending = [] ∧
      (∀ t, State.reset.heads.h0.timer = some t → 1 < t.left) ∧
      (∀ t, State.reset.heads.h1.timer = some t → 1 < t.left) := by
  refine ⟨rfl, ?_, ?_⟩ <;> rintro t ⟨⟩ <;> decide

/-- Timers that reach 0 in the tick: head 0's park timer at 1 and head 1's close timer at 1. -/
theorem witness_IdleStepCountsTimers_expiry :
    let s := { State.reset with
      heads := ⟨{ Head.reset with timer := some ⟨.park, 1⟩ }, atWork .assigned (some ⟨.close, 1⟩) none⟩ }
    s.pending = [] ∧ s.heads.h0.timer = some ⟨.park, 1⟩ ∧ s.heads.h1.timer = some ⟨.close, 0 + 1⟩ ∧
      (1 : Nat) - 1 = 0 := by decide +kernel

theorem witness_DecodeOfEncode :
    (Instr.noticeMaskWrite .press 0xFFFFFFFF).request =
        some ⟨.press, .noticeMask, true, 0, 0xFFFFFFFF⟩ ∧
      (Instr.noticeMaskWrite .press 0xFFFFFFFF).roleOk = true ∧
      (Instr.readLine 127 0).request = some ⟨.order, .readLine, false, 127, 0⟩ := by decide +kernel

/-- Lengths 0, 55 and 57; a wrong check; code 0x06; ARRIVE on ORDER; a good READ_ID; and a refused
frame received from its first edge. -/
theorem witness_RefusedFrameOnlyAnswers :
    (receive []).edges ≠ 56 ∧ (receive (List.replicate 55 true)).edges = 55 ∧
      (receive (List.replicate 57 true)).edges = 57 ∧
      frameCheck 0x020000000000FC#56 ≠ checkCode (frameBody 0x020000000000FC#56) ∧
      (Cmd.ofCode 0x06 = none) ∧
      (Cmd.arrive.code = frameCode 0x400700000000F0#56 ∧ Cmd.arrive.acceptedOn .order = false) ∧
      (Cmd.readId.code = frameCode 0x020000000000FD#56 ∧ Cmd.readId.acceptedOn .order = true ∧
        frameCheck 0x020000000000FD#56 = checkCode (frameBody 0x020000000000FD#56)) ∧
      ((framed .order).ports.get .order).receiver = some ⟨0, 0⟩ ∧
      frameIsRefused .order (frameBits 0x400700000000F0#56) = true := by decide +kernel

theorem witness_FramesAreTakenOrRefused :
    (((framed .order).ports.get .order).receiver = some ⟨0, 0⟩ ∧
        frameIsRefused .order (frameBits 0x020000000000FD#56) = false) ∧
      ((State.reset.ports.get .order).receiver = none ∧
        (State.reset.ports.get .order).selectAsserted = false ∧ frameIsRefused .order [] = true) ∧
      (let s := (framed .order).fullReset .pin
       (s.ports.get .order).receiver = none ∧ (s.ports.get .order).selectAsserted = true) ∧
      ((framed .order).inFrame .order ∧ (Instr.arrive .order 0).roleOk = false) := by decide +kernel

/-- Frames of 0 and 57 edges right after an assertion, on a port that has driven nothing yet; and the bits
55 and 56 of a reply. -/
theorem witness_SelectAssertionLatchesTheReply :
    (framed .order).inFrame .order ∧ ((framed .order).ports.get .order).receiver = some ⟨0, 0⟩ ∧
      ((framed .order).ports.get .order).driven = [] ∧
      frameIsRefused .order [] = true ∧ frameIsRefused .order (List.replicate 57 true) = true ∧
      (55 : Nat) < 56 ∧ 56 ≤ 56 := by decide +kernel

theorem witness_ExtensionWordIsUsedOnce :
    (Instr.nop .print).request = some ⟨.print, .nop, false, 0, 0⟩ ∧ (framed .print).inFrame .print ∧
      (Instr.nop .print).roleOk = true ∧ Cmd.nop ≠ .extend := by decide +kernel

/-- Every port can be in a frame: the hypothesis of ReadIdAnswers, NopExtendAndNoticeMask and of the
clauses about a frame alone. -/
theorem witness_ReadIdAnswers : ∀ p ∈ [Port.order, .pretreat, .print, .press], (framed p).inFrame p := by
  decide +kernel

/-- No kind pending; the last kind of a port pending alone; and ASSIGNMENT_1 with its mailbox full. -/
theorem witness_FetchNotice :
    (framed .order).inFrame .order ∧
      (∀ k : Fin 8, ((framed .order).ports.get .order).notices.get k = ⟨false, 0⟩) ∧
      (let s := (framed .order).raise (.lineCleared .order) []
       s.inFrame .order ∧ ((s.ports.get .order).notices.get 7).pending = true ∧
         (s.ports.get .order).mask.getLsbD 7 = true ∧
         ∀ j : Fin 8, j < 7 → ((s.ports.get .order).notices.get j).pending = false) ∧
      (let s := (framed .press).post .h1 .release
       s.inFrame .press ∧ ((s.ports.get .press).notices.get 1).pending = true ∧
         (s.ports.get .press).mask.getLsbD 1 = true ∧ s.heads.h1.mailbox ≠ none) := by decide +kernel

/-- The ORDER port with a specification word valid, which names artwork 63. -/
def posting (s : State) : State := s.modifyPort .order fun ps => { ps with ext := some 0xFFFFFFFF }

theorem witness_PostLineRefusals :
    ((framed .order).inFrame .order ∧ ((framed .order).ports.get .order).ext = none) ∧
      (((posting (framed .order)).ports.get .order).ext = some 0xFFFFFFFF ∧
        (posting (framed .order)).inFrame .order ∧
        ((posting (framed .order)).artworks.get (lineSpec 0xFFFFFFFF).artwork).state = .free) ∧
      (let s := withArt { posting (framed .order) with
         lines := (posting (framed .order)).lines.set 255 openLine } loading
       (s.artworks.get (lineSpec 0xFFFFFFFF).artwork).state ≠ .free ∧
         (s.lines.get 255).state ≠ .free ∧ (s.lines.get 255).orderRef = 9 ∧
         (s.lines.get 255).lineNo = 0) := by
  decide +kernel

/-- A full table in which no line has the order reference 10. -/
theorem witness_PostLineRefusals_full (i : LineIx) :
    let t : Table OrderLine 256 := Table.replicate 256 openLine
    (t.get i).state ≠ .free ∧ ¬ ((t.get i).orderRef = 10 ∧ (t.get i).lineNo = 0) := by
  simp [openLine]

/-- An empty table: the lowest FREE line is 0. -/
theorem witness_PostLineFillsTheLowestFreeLine :
    (let s := withArt (posting (framed .order)) loading
     s.inFrame .order ∧ (s.ports.get .order).ext = some 0xFFFFFFFF ∧
       (s.artworks.get (lineSpec 0xFFFFFFFF).artwork).state ≠ .free ∧ (s.lines.get 0).state = .free) := by
  decide +kernel

/-- The last line the only FREE one, and no line with the order reference 10. -/
theorem witness_PostLineFillsTheLowestFreeLine_last :
    let t : Table OrderLine 256 := (Table.replicate 256 openLine).set 255 OrderLine.free
    (t.get 255).state = .free ∧ (∀ j, j < (255 : LineIx) → (t.get j).state ≠ .free) ∧
      ∀ j, ¬ ((t.get j).state ≠ .free ∧ (t.get j).orderRef = 10 ∧ (t.get j).lineNo = 0) := by
  refine ⟨by simp [OrderLine.free], fun j hj => ?_, fun j => ?_⟩
  · rw [Table.get_set_ne _ _ (Fin.ne_of_lt hj)]; simp [openLine]
  · by_cases hj : j = 255
    · subst hj; simp [OrderLine.free]
    · rw [Table.get_set_ne _ _ hj]; simp [openLine]

theorem witness_AmendHoldAndRetireLine :
    (framed .order).inFrame .order ∧ ((framed .order).lines.get 255).state = .free ∧
      (let l : OrderLine := { openLine with state := .full, bound := 15, wanted := 15 }
       l.state ≠ .free ∧ l.state ≠ .cancelled ∧ l.bound + l.finished ≤ 15) ∧
      (let l : OrderLine := { openLine with state := .cancelled }
       l.state = .cancelled ∧ l.bound = 0) ∧
      (let l : OrderLine := { openLine with state := .done, finished := 1 }
       l.state = .done ∧ l.bound = 0) ∧
      (let l : OrderLine := { openLine with state := .cancelled, bound := 1 }
       l.state = .cancelled ∧ l.bound ≠ 0) := by decide +kernel

theorem witness_CancelLine :
    (framed .order).inFrame .order ∧
      ¬ (((framed .order).lines.get 0).state = .open_ ∨ ((framed .order).lines.get 0).state = .full) ∧
      (let s := withPlaten { framed .order with
         lines := (framed .order).lines.set 0 { openLine with state := .full, bound := 1 } } .transit
           (some (ticketAt .cured))
       s.inFrame .order ∧ (s.lines.get 0).state = .full ∧ (s.lines.get 0).bound ≠ 0 ∧
         (47 : PlatenIx).val < s.params.platenCount ∧ (s.ticket 47).map Ticket.line = some 0) := by
  decide +kernel

/-- A platen at each station, and a head in each state, for the effects of a cancellation. -/
theorem witness_CancelLine_stations :
    (∀ l ∈ [Location.loadZone, .transit, .pretreatQueue, .pretreatSlot, .printQueue, .bed .b,
        .rack .dryStd, .head .h1], (withPlaten (framed .order) l none).location 47 = l) ∧
      (∀ st ∈ [HeadState.assigned, .closed, .releasing], (atWork st none none).state = st) ∧
      (atWork .assigned none none).closeOnTaken = true ∧
      ({ atWork .assigned none none with closeOnTaken := false } : Head).platen = some 47 := by
  decide +kernel

/-- AGE at its only position, at its length, and a line that is not FREE. -/
theorem witness_ReadLine :
    let s := { framed .order with lines := (framed .order).lines.set 255 openLine, age := [255] }
    s.inFrame .order ∧ s.age[0]? = some 255 ∧ s.age.length ≤ 1 ∧ (s.lines.get 255).state ≠ .free ∧
      (s.lines.get 0).state = .free := by decide +kernel

/-- An OPEN line on a READY artwork, and platen 47 in TRANSIT. -/
def scanning : State :=
  let s := withPlaten (framed .order) .transit none
  { s with lines := s.lines.set 255 openLine, age := [255]
           artworks := s.artworks.set 0 { loading with state := .ready } }

theorem witness_LoadScanAutomatic :
    ((framed .order).params.platenCount ≤ p48.toNat) ∧
      (scanning.inFrame .order ∧ p47.toNat = (47 : PlatenIx).val ∧ 47 < scanning.params.platenCount) ∧
      (withPlaten scanning .transit (some (ticketAt .bound))).ticket 47 ≠ none ∧
      ((withPlaten scanning (.bed .b) none).location 47 ≠ .loadZone ∧
        (withPlaten scanning (.bed .b) none).location 47 ≠ .transit) ∧
      (scanning.ports.get .order).ext = none := by decide +kernel

/-- Platen 47 can be scanned, and line 255 is the one that the policy chooses, with a garment left. -/
theorem witness_LoadScanAutomatic_chosen :
    Scannable scanning 47 ∧ Chosen scanning 0 255 ∧
      (scanning.lines.get 255).bound + (scanning.lines.get 255).finished <
        (scanning.lines.get 255).wanted := by
  refine ⟨⟨by decide +kernel, by decide +kernel, .inr (by decide +kernel)⟩, ⟨[], [], rfl, ?_, ?_⟩,
    by decide +kernel⟩
  · exact ⟨by decide +kernel, by decide +kernel, by decide +kernel, by decide +kernel⟩
  · refine .inr ⟨?_, by simp⟩
    rintro j hj ⟨-, hr⟩
    rw [show scanning.age = [255] from rfl, List.mem_singleton] at hj
    subst hj
    exact absurd hr (by show ¬ (scanning.lines.get 255).priority = .rush; decide +kernel)

/-- The forced path's boundary words 256 and 255, and a line of each kind it refuses. -/
theorem witness_LoadScanForced :
    scanning.inFrame .order ∧ p47.toNat = (47 : PlatenIx).val ∧
      255 < (256 : Word).toNat ∧ (255 : Word).toNat ≤ 255 ∧
      (scanning.lines.get 0).state ≠ .open_ ∧ (scanning.lines.get 255).state = .open_ ∧
      ((scanning.lines.get 255).style = 0 ∧ (scanning.lines.get 255).style ≠ 1) ∧
      (scanning.artworks.get (scanning.lines.get 255).artwork).state = .ready ∧
      ((framed .order).artworks.get 0).state ≠ .ready := by decide +kernel

/-- Platen 47 at unload: EMPTY, a finish that ends the line, a pull, a VOID of a CANCELLED line. -/
theorem witness_Unload :
    (let s := withPlaten (framed .order) .loadZone none
     s.inFrame .order ∧ s.location 47 = .loadZone ∧ s.ticket 47 = none ∧
       s.params.platenCount ≤ p48.toNat) ∧
      (let s := withPlaten { framed .order with
         lines := (framed .order).lines.set 0 { openLine with state := .full, bound := 1 } } .transit
           (some (ticketAt .cured))
       let l := s.lines.get 0
       s.ticket 47 = some (ticketAt .cured) ∧ l.state = .full ∧ 1 ≤ l.bound ∧
         l.bound + l.finished ≤ l.wanted ∧ (ticketAt .cured).disposition = .good ∧
         ¬ ((ticketAt .printed).disposition = .good ∧ (ticketAt .printed).stage = .cured)) ∧
      (withPlaten (framed .order) (.head .h1) none).location 47 ≠ .transit ∧
      ({ ticketAt .cured with disposition := .void } : Ticket).disposition = .void ∧
      ({ openLine with state := .cancelled } : OrderLine).state = .cancelled := by decide +kernel

theorem witness_ArriveChecks :
    (let s := withPlaten (framed .press) (.head .h1) none
     s.inFrame .press ∧ Port.press ≠ .order ∧ p47.toNat = (47 : PlatenIx).val ∧
       47 < s.params.platenCount ∧ s.location 47 = .head .h1) ∧
      (let s := withPlaten { framed .pretreat with pretreatQueue := [47] } .pretreatQueue none
       s.location 47 = .pretreatQueue ∧ 47 ∈ s.pretreatQueue) ∧
      (let s := withPlaten { framed .print with printQueue := [47] } .printQueue none
       s.location 47 = .printQueue ∧ 47 ∈ s.printQueue) ∧
      (let s := withPlaten { framed .press with lists := ⟨[], [], [], [47]⟩ } (.rack .dryStd) none
       s.location 47 = .rack .dryStd ∧ 47 ∈ s.lists.get .dryStd) := by decide +kernel

theorem witness_ArriveAtAQueue :
    (let s := withPlaten (framed .pretreat) .loadZone none
     s.inFrame .pretreat ∧ 47 < s.params.platenCount ∧ s.location 47 = .loadZone ∧
       47 ∉ s.pretreatQueue) ∧
      (let s := withPlaten { framed .print with pretreatQueue := [47] } .pretreatQueue none
       s.inFrame .print ∧ s.location 47 = .pretreatQueue ∧ 47 ∉ s.printQueue) ∧
      (let s := withPlaten { framed .pretreat with printQueue := [47] } .printQueue none
       s.location 47 = .printQueue ∧ 47 ∉ s.pretreatQueue) ∧
      (let s := withPlaten { framed .print with lists := ⟨[], [], [], [47]⟩ } (.rack .dryStd) none
       s.location 47 = .rack .dryStd ∧ 47 ∉ s.printQueue) := by decide +kernel

theorem witness_ArriveAtThePress :
    (let s := withPlaten (framed .press) .transit (some (ticketAt .printed))
     s.inFrame .press ∧ s.location 47 = .transit ∧ 47 < s.params.platenCount ∧
       s.ticket 47 = some (ticketAt .printed)) ∧
      ((ticketAt .pretreated).stage = .pretreated ∧ (ticketAt .pretreated).disposition = .good) ∧
      (ticketAt .cured).stage ≠ .printed ∧
      (withPlaten (framed .press) .loadZone none).ticket 47 = none ∧
      (let s := withPlaten { framed .press with pretreatQueue := [47] } .pretreatQueue none
       s.inFrame .press ∧ s.location 47 = .pretreatQueue) ∧
      (let s := withPlaten { framed .press with printQueue := [47] } .printQueue
         (some (ticketAt .pretreated))
       s.location 47 = .printQueue ∧ s.ticket 47 = some (ticketAt .pretreated)) := by decide +kernel

theorem witness_ReadPlaten :
    (let s := withPlaten (framed .print) .transit (some (ticketAt .primed))
     s.inFrame .print ∧ 47 < s.params.platenCount ∧ s.ticket 47 = some (ticketAt .primed) ∧
       s.params.platenCount ≤ 48) ∧
      (withPlaten (framed .print) .transit none).ticket 47 = none ∧ 8 < (9 : Selector).toNat := by
  decide +kernel

/-- The selectors 63 and 64; artwork 63 FREE, LOADING, in use by a line, and under a load run. -/
theorem witness_ArtworkOpenDropDelete :
    ((framed .order).inFrame .order ∧ (63 : Selector).toNat = (63 : ArtIx).val ∧
        64 ≤ (64 : Selector).toNat ∧ ((framed .order).artworks.get 63).state = .free) ∧
      (let s := withArt (framed .order) loading
       (s.artworks.get 63).state ≠ .free ∧ (s.artworks.get 63).lines = 0 ∧
         (s.artworks.get 63).tickets = 0 ∧ s.loadRun = none ∧ s.engine.running = false ∧
         ((s.artworks.get 63).segs.get 15).resident = true ∧
         ((s.artworks.get 63).segs.get 0).resident = false) ∧
      ({ loading with tickets := 1 } : Artwork).tickets ≠ 0 ∧
      (loadingRun 0 0).loadRun = some ⟨63, 15, 0, 3, 0⟩ := by decide +kernel

/-- Ranges that end at store block 131071 and one past it, and one that meets segment 15. -/
theorem witness_SegmentSet :
    (let s := withArt (posting (framed .order)) loading
     s.inFrame .order ∧ (s.artworks.get 63).state ≠ .free ∧ (s.artworks.get 63).tickets = 0 ∧
       s.loadRun = none ∧ s.engine.running = false ∧ (s.ports.get .order).ext = some 0xFFFFFFFF ∧
       planeOf 4 = some .w ∧ loadKeyOf 2 = some .readWrite ∧
       131071 < (0xFFFFFFFF : Word).toNat ∧ (131071 : Word).toNat + 0 ≤ 131071 ∧
       (s.segment 63 15).resident = true ∧ (s.segment 63 15).firstStore ≤ 2 ∧
       2 ≤ (s.segment 63 15).lastStore) ∧
      (∀ g : SegIx, g ≠ 15 → ((withArt (framed .order) loading).segment 63 g).resident = false) := by
  decide +kernel

/-- The earlier refusals: no extension word; selector 64; a FREE entry; the plane field at 4 and 5 and the
load key field at 2 and 3; an entry with a ticket; and one under a load run or a preflight. -/
theorem witness_SegmentSet_refusals :
    ((framed .order).ports.get .order).ext = none ∧
      ((posting (framed .order)).ports.get .order).ext ≠ none ∧ 64 ≤ (64 : Selector).toNat ∧
      ((posting (framed .order)).artworks.get 63).state = .free ∧
      (((0x00040000#32 : Arg).extractLsb' 16 3).toNat < 5 ∧
        ¬ ((0x00050000#32 : Arg).extractLsb' 16 3).toNat < 5) ∧
      (((0x00008000#32 : Arg).extractLsb' 14 2).toNat < 3 ∧
        ¬ ((0x0000C000#32 : Arg).extractLsb' 14 2).toNat < 3) ∧
      ({ loading with tickets := 1 } : Artwork).tickets ≠ 0 ∧
      (posting (loadingRun 0 0)).loadRun = some ⟨63, 15, 0, 3, 0⟩ := by decide +kernel

theorem witness_LoadRunOpenAndAbort :
    (let s := withArt (framed .order) loading
     s.inFrame .order ∧ (s.artworks.get 63).state ≠ .free ∧ (s.artworks.get 63).tickets = 0 ∧
       s.loadRun = none ∧ s.engine.running = false ∧
       ((s.artworks.get 63).segs.get 15).resident = true ∧
       ((s.artworks.get 63).segs.get 15).loadKey = .readWrite ∧
       ((s.artworks.get 63).segs.get 0).resident = false) ∧
      64 ≤ (64 : Selector).toNat ∧ ({ loading with tickets := 1 } : Artwork).tickets ≠ 0 ∧
      ((framed .order).artworks.get 63).state = .free ∧
      (loadingRun 0 0).inFrame .order ∧ (loadingRun 0 0).loadRun ≠ none := by decide +kernel

theorem witness_FaultRecords :
    (framed .order).inFrame .order ∧ (framed .print).inFrame .print ∧
      (State.reset.faults.get .load).frozen = false ∧
      (let s := (framed .print).recordFault .print ⟨true, false, false⟩ .stripeOpen 63 15 (.atOpen 255) .b
       s.inFrame .print ∧ (s.faults.get .print).frozen = true) ∧ 2 ≤ (2 : Selector).toNat := by
  decide +kernel

/-- A load run with a block in progress of `n` zero words. -/
def inBlock (first n : Nat) (inRun : Bool) : State :=
  { loadingRun first 0 with loadBlock := some ⟨List.replicate n 0, inRun⟩ }

/-- No block in progress; one of a run, and one of none; the segment blocks 2 and 3 of a segment whose
range ends at block 2; and the run's steps 255 and 256. -/
theorem witness_LoadLinkBlock :
    (State.reset.loadBlock = none ∧ LinkWord.rejected ≠ .control .start ∧ ([] : List Word).length ≤ 1024 ∧
        State.reset.loadRun = none) ∧
      ((inBlock 2 1 false).loadBlock = some ⟨[0], false⟩ ∧ (inBlock 2 0 true).loadBlock = some ⟨[], true⟩ ∧
        (inBlock 2 1 true).loadRun = some ⟨63, 15, 2, 3, 0⟩) ∧
      (let d := (inBlock 2 1 true).segment 63 15
       d.resident = true ∧ d.loadKey = .readWrite ∧ d.lowBlock ≤ 2 ∧ 2 ≤ d.highBlock ∧
         ¬ (d.lowBlock ≤ 3 ∧ 3 ≤ d.highBlock) ∧ d.base + 2 < 131072) ∧
      (255 + 0 ≤ 255 ∧ 255 < 255 + 1) ∧ (0 + 1 ≠ 3 ∧ 2 + 1 = 3) := by decide +kernel

/-- The first word of a command of two goes on. -/
theorem witness_LoadLinkBlock_more :
    exec (.loadLinkBlock .rejected []) State.reset = .next State.reset := rfl

theorem sum_zeros (n : Nat) : (List.replicate n (0 : Word)).foldl (· + ·) 0 = 0 := by
  induction n with
  | zero => rfl
  | succ n ih => simpa [List.replicate_succ] using ih

/-- A block in progress of 1024 zero words; its check word, and a wrong one. -/
theorem witness_LoadLinkBlock_words :
    (inBlock 2 1024 true).loadBlock = some ⟨List.replicate 1024 0, true⟩ ∧
      (List.replicate 1024 (0 : Word)).length = 1024 ∧
      (0 : Word) = (List.replicate 1024 (0 : Word)).foldl (· + ·) 0 ∧
      (1 : Word) ≠ (List.replicate 1024 (0 : Word)).foldl (· + ·) 0 :=
  ⟨rfl, List.length_replicate, (sum_zeros 1024).symm, by rw [sum_zeros]; decide⟩

theorem witness_ReadWord :
    (framed .order).inFrame .order ∧ 64 ≤ (64 : Selector).toNat ∧
      ((framed .order).artworks.get 63).state = .free ∧
      (let s := withArt (framed .order) loading
       let d := s.segment 63 15
       (s.artworks.get 63).state ≠ .free ∧ d.resident = true ∧ d.loadKey ≠ .absent ∧
         d.lowBlock ≤ 2 ∧ 2 ≤ d.highBlock ∧ ¬ (d.lowBlock ≤ 3 ∧ 3 ≤ d.highBlock) ∧
         (s.segment 63 0).resident = false) ∧
      ({ loading.segs.get 15 with loadKey := .absent } : Segment).resident = true := by decide +kernel

theorem witness_ReadArtworkAndPreflight :
    (framed .print).inFrame .print ∧ 4 ≤ (4 : Selector).toNat ∧ 5 ≤ (5 : Selector).toNat ∧
      ((5 <<< 6 : Arg).extractLsb' 6 3).toNat = 5 ∧
      ((4 <<< 6 : Arg).extractLsb' 6 3).toNat = planeCode .w := by decide +kernel

/-- Artwork 63 with its one printable segment 15: listed in FULL mode, and unlisted in INCREMENTAL mode
once its sum is valid. -/
theorem witness_PreflightStart :
    (let s := withArt (framed .order) loading
     s.inFrame .order ∧ (s.artworks.get 63).state ≠ .free ∧ (s.artworks.get 63).tickets = 0 ∧
       s.engine.running = false ∧ s.loadRun = none ∧
       ((s.artworks.get 63).segs.get 15).resident = true ∧
       ((s.artworks.get 63).segs.get 15).printKey = .read ∧
       ((s.artworks.get 63).segs.get 15).valid = false) ∧
      (loadingRun 0 0).loadRun ≠ none ∧ 64 ≤ (64 : Selector).toNat ∧
      (∀ g : SegIx, (Artwork.free.segs.get g).resident = false) ∧
      ({ loading.segs.get 15 with valid := true } : Segment).written = false := by decide +kernel

/-- In INCREMENTAL mode an artwork whose one printable segment is valid and clean has an empty scan
list. -/
theorem witness_PreflightStart_empty :
    let e : Artwork := { loading with
      segs := loading.segs.modify 15 fun g => { g with valid := true } }
    let s := withArt (framed .order) e
    s.inFrame .order ∧ (s.artworks.get 63).state ≠ .free ∧ (s.artworks.get 63).tickets = 0 ∧
      s.engine.running = false ∧ s.loadRun = none ∧ (1 : Arg).getLsbD 0 = true ∧
      (((s.artworks.get 63).segs.get 15).resident = true ∧
        ((s.artworks.get 63).segs.get 15).printKey = .read) ∧
      ((List.finRange 16).filter fun g =>
        ((s.artworks.get 63).segs.get g).resident && ((s.artworks.get 63).segs.get g).printKey == .read &&
          (((s.artworks.get 63).segs.get g).written || !((s.artworks.get 63).segs.get g).valid)) = [] := by
  decide +kernel

/-- The engine at the last block of its last segment, and at a block before it. -/
def scanningStore (inSegment : Nat) : State :=
  { withArt (framed .order) { loading with state := .preflight } with
    engine := ⟨true, 63, .full, [15], 15, 0, 0, 0, inSegment⟩ }

theorem witness_PreflightRuns :
    State.reset.engine.running = false ∧ (scanningStore 0).engine.running = true ∧
      (scanningStore 0).engine.inSegment + 1 < ((scanningStore 0).segment 63 15).blockCount ∧
      (scanningStore 2).engine.inSegment + 1 = ((scanningStore 2).segment 63 15).blockCount ∧
      ({ (scanningStore 2).engine with scanList := [15, 0] } : Engine).scanList[1]? = some 0 ∧
      (scanningStore 0).inFrame .order := by decide +kernel

theorem witness_PreflightCompletes :
    (scanningStore 2).engine.running = true ∧
      (scanningStore 2).engine.inSegment + 1 = ((scanningStore 2).segment 63 15).blockCount ∧
      (scanningStore 2).engine.scanList[(scanningStore 2).engine.segsDone + 1]? = none := by
  decide +kernel

theorem witness_PretreatStart :
    (let s := withPlaten { framed .pretreat with pretreatQueue := [47] } .pretreatQueue
       (some (ticketAt .bound))
     s.inFrame .pretreat ∧ s.params.platenCount ≤ p48.toNat ∧ p47.toNat = (47 : PlatenIx).val ∧
       s.location 47 = .pretreatQueue ∧ s.slot = none ∧ s.ticket 47 = some (ticketAt .bound) ∧
       (ticketAt .bound).dose ≠ 0) ∧
      ({ ticketAt .bound with dose := 0 } : Ticket).dose = 0 ∧
      ({ ticketAt .bound with disposition := .void } : Ticket).disposition ≠ .good ∧
      (ticketAt .primed).stage ≠ .bound ∧
      (withPlaten (framed .pretreat) .transit none).location 47 ≠ .pretreatQueue ∧
      ({ framed .pretreat with slot := some 46 } : State).slot = some 46 := by decide +kernel

/-- Dose 150 and tolerance 15: a total of 135 is good and 134 short; spray 1 is at the limit, 2 above. -/
theorem witness_PretreatDone :
    (let s := withPlaten { framed .pretreat with slot := some 47 } .pretreatSlot
       (some (ticketAt .pretreating))
     let k := ticketAt .pretreating
     let row := s.fabric.get k.fabric
     s.inFrame .pretreat ∧ s.location 47 = .pretreatSlot ∧ s.ticket 47 = some k ∧
       k.dose ≤ 135 + row.underTol ∧ 134 + row.underTol < k.dose ∧
       k.sprays ≤ s.params.resprayLimit ∧ s.params.resprayLimit < k.sprays + 1 ∧
       k.stage = .pretreating ∧ k.disposition = .good) ∧
      ({ ticketAt .pretreating with disposition := .void } : Ticket).disposition = .void ∧
      (framed .pretreat).location 47 ≠ .pretreatSlot ∧
      (framed .pretreat).params.platenCount ≤ p48.toNat := by decide +kernel

theorem witness_PrintStart :
    (let s := withPlaten { framed .print with printQueue := [47] } .printQueue (some (ticketAt .primed))
     s.inFrame .print ∧ 2 ≤ (2 : Selector).toNat ∧ s.params.platenCount ≤ 48 ∧
       (1 : Selector).toNat = bedCode .b ∧ (s.beds.get .b).active = false ∧
       s.location 47 = .printQueue ∧ s.ticket 47 = some (ticketAt .primed)) ∧
      ((printing (ticketAt .printing) none).beds.get .b).active = true ∧
      (printing (ticketAt .printing) none).location 47 ≠ .printQueue ∧
      (ticketAt .bound).stage = .bound ∧ (ticketAt .pretreated).stage = .pretreated ∧
      (ticketAt .cured).stage = .cured ∧
      ({ ticketAt .primed with disposition := .spoiled } : Ticket).disposition ≠ .good := by
  decide +kernel

/-- Segment 15, whose range is blocks 0 to 2; and segment 0, which is not resident. -/
theorem witness_StripeOpens :
    (let s := printing (ticketAt .printing) none
     let d := s.segment 63 15
     s.inFrame .print ∧ (s.beds.get .b).active = true ∧ (s.beds.get .b).run = none ∧
       s.ticket 47 = some (ticketAt .printing) ∧ d.resident = true ∧ d.printKey = .read ∧
       (s.segment 63 0).resident = false ∧ s.link.sending = none ∧ (s.beds.get .a).run = none ∧
       d.lowBlock ≤ 2 ∧ 2 ≤ d.highBlock) ∧
      ({ framed .print with link := ⟨some ⟨.a, 0, 0, 0⟩, .a⟩ } : State).link.sending ≠ none ∧
      ((printing (ticketAt .printing) (some ⟨15, .asc, 0, 1, 0, 0⟩)).beds.get .b).run ≠ none ∧
      (State.reset.beds.get .b).active = false ∧ 2 ≤ (2 : Selector).toNat := by decide +kernel

/-- A run on bed B alone while the last-served mark names B; an ascending step at block 255 and one past
it, a descending step at block 0 and one below it; and blocks of a range that ends at 2. -/
theorem witness_LinkIsHandedAlternately :
    let r : StripeRun := ⟨15, .asc, 253, 4, 2, 2⟩
    let s := printing (ticketAt .printing) (some r)
    let d := s.segment 63 15
    s.link.sending = none ∧ (s.beds.get .b).run = some r ∧ r.sent < r.count ∧
      s.link.lastServed = .b ∧ (s.beds.get (otherBed .b)).run = none ∧
      r.first + r.nextStep ≤ 255 ∧ ¬ r.first + (r.nextStep + 1) ≤ 255 ∧
      ((2 : Nat) ≤ 2 ∧ ¬ 2 + 1 ≤ 2) ∧
      d.resident = true ∧ d.printKey = .read ∧ (d.lowBlock ≤ 2 ∧ 2 ≤ d.highBlock) ∧
      ¬ (d.lowBlock ≤ 255 ∧ 255 ≤ d.highBlock) := by decide +kernel

theorem witness_SendCompletesOrIsCut :
    State.reset.link.sending = none ∧
      (let s := { printing (ticketAt .printing) (some ⟨15, .asc, 0, 2, 1, 1⟩) with
         link := ⟨some ⟨.b, 15, 1, 1⟩, .b⟩ }
       s.inFrame .print ∧ s.link.sending = some ⟨.b, 15, 1, 1⟩ ∧
         (s.beds.get .b).run = some ⟨15, .asc, 0, 2, 1, 1⟩ ∧ 1 + 1 = 2 ∧ 0 + 1 ≠ 2 ∧
         (1 : Selector).toNat = bedCode .b ∧ (s.beds.get .a).run = none) ∧
      2 ≤ (2 : Selector).toNat := by decide +kernel

theorem witness_PrintEnd :
    (let s := printing (ticketAt .printing) none
     s.inFrame .print ∧ (1 : Selector).toNat = bedCode .b ∧ (s.beds.get .b).active = true ∧
       (s.beds.get .b).run = none ∧ s.ticket 47 = some (ticketAt .printing)) ∧
      ((printing (ticketAt .printing) (some ⟨15, .asc, 0, 1, 0, 0⟩)).inFrame .print ∧
        ((printing (ticketAt .printing) (some ⟨15, .asc, 0, 1, 0, 0⟩)).beds.get .b).run =
          some ⟨15, .asc, 0, 1, 0, 0⟩) ∧
      ({ ticketAt .printing with disposition := .void } : Ticket).disposition = .void ∧
      (State.reset.beds.get .b).active = false ∧ 2 ≤ (2 : Selector).toNat ∧
      (1 : Arg).getLsbD 0 = true ∧ (0 : Arg).getLsbD 0 = false := by decide +kernel

/-- Every list empty; each mode with two lists waiting; a head to pick; and a head at park delay 0. -/
theorem witness_SelectionAndGrants :
    (∀ l ∈ [RackList.cureRush, .cureStd, .dryRush, .dryStd], State.reset.lists.get l = []) ∧
      (let s := { framed .press with
         press := { State.reset.press with mode := .fixed }, lists := ⟨[], [], [46], [47]⟩ }
       s.press.mode = .fixed ∧ s.lists.get .dryRush ≠ [] ∧ s.lists.get .cureRush = [] ∧
         s.lists.get .cureStd = []) ∧
      (let s := { framed .press with lists := ⟨[], [], [46], [47]⟩, level2 := .dryRush }
       s.press.mode = .rotate ∧ turn s .dryStd ≤ turn s .dryRush ∧ selectList s = some .dryStd ∧
         s.lists.get .dryStd = 47 :: []) ∧
      (withHead State.reset { Head.reset with timer := some ⟨.park, 0⟩ }).heads.h1.timer =
        some ⟨.park, 0⟩ ∧
      (State.reset.grantEval.heads.h0.timer ≠ some ⟨.park, 0⟩ ∧
        State.reset.grantEval.heads.h1.timer ≠ some ⟨.park, 0⟩) := by decide +kernel

theorem witness_SelectionAndGrants_picked :
    Picked State.reset .cure .h0 ∧
      ∀ h, ¬ Eligible { State.reset with
        heads := ⟨{ Head.reset with state := .declining }, { Head.reset with state := .isolated }⟩ } h := by
  refine ⟨⟨⟨rfl, .inl rfl, by decide⟩, .inl ⟨rfl, fun x _ _ => Nat.zero_le _⟩⟩, ?_⟩
  rintro (_ | _) ⟨-, hs, -⟩ <;> exact absurd hs (by decide)

/-- Each kind of assignment can be pending in a slot. -/
theorem witness_PostingMerges :
    ∀ m ∈ [none, some (Assignment.closeOn 47 .cure 190 true), some .release, some (.park .dry 150),
      some (.setpoint 160)],
      (withHead State.reset { Head.reset with mailbox := m }).heads.h1.mailbox = m := by decide +kernel

/-- Head 1 present and not present, with each kind of assignment pending. -/
theorem witness_TakeAssignment :
    ((framed .press).inFrame .press ∧ (framed .press).present .h1 = true ∧
        (1 : Selector).toNat = headCode .h1 ∧ 2 ≤ (2 : Selector).toNat ∧
        (framed .press).heads.h1.mailbox = none) ∧
      ({ State.reset with press := { State.reset.press with headsPresent := 1 } } : State).press.headsPresent
        ≠ 2 ∧
      (atWork .releasing none (some .release)).state ≠ .free ∧
      ({ Head.reset with mailbox := some .release } : Head).state = .free := by decide +kernel

theorem witness_PressClosed :
    (let d := atWork .assigned (some ⟨.close, 1⟩) none
     (withHead (framed .press) d).inFrame .press ∧ d.state = .assigned ∧ d.closeOnTaken = true ∧
       d.platen = some 47) ∧
      ({ atWork .assigned none none with closeOnTaken := false } : Head).closeOnTaken = false ∧
      (atWork .releasing none none).state = .releasing ∧ (atWork .closed none none).state = .closed ∧
      Head.reset.state = .free ∧ Head.reset.late = false := by decide +kernel

/-- A scorch on the fourth count, a target met exactly and missed by one, the last sample of the limit
and the one before it, and the directions at their bounds, all at the CURE defaults. -/
theorem witness_PressSample :
    (let k := ticketAt .printed
     let s := curing 239 k
     s.inFrame .press ∧ s.present .h1 = true ∧ (s.heads.get .h1).state = .closed ∧
       s.ticket (s.thermal.get .h1).cycle.platen = some k ∧ k.disposition = .good ∧
       k.stage = cycleFrom .cure ∧ s.pass.cure.maxSamples ≤ 239 + 1 ∧ 238 + 1 < s.pass.cure.maxSamples ∧
       s.pass.cure.scorchTemp ≤ 200 ∧ s.pass.cure.scorchLimit ≤ 3 + 1 ∧
       ¬ s.pass.cure.scorchLimit ≤ k.scorches + 1 ∧
       k.target .cure = some 16 ∧ 16 ≤ incrementOf s.pass.cure 150 ∧
       incrementOf s.pass.cure 149 < 16 ∧
       ((s.pass.cure.goal : Int) - s.pass.cure.band ≤ 162 ∧ 168 ≤ s.pass.cure.goal + s.pass.cure.band) ∧
       (161 : Int) < s.pass.cure.goal - s.pass.cure.band ∧ s.pass.cure.goal + s.pass.cure.band < 169 ∧
       k.presses + 1 ≤ s.params.repressLimit ∧ s.params.repressLimit < 1 + 1) ∧
      (atWork .releasing none none).state = .releasing ∧ Head.reset.state ≠ .closed := by decide +kernel

theorem witness_PressOpened :
    (let k := ticketAt .printed
     let s := curing 0 k
     s.inFrame .press ∧ (s.heads.get .h1).platen = some 47 ∧ (s.heads.get .h1).state = .closed ∧
       (s.thermal.get .h1).cycle.platen = 47 ∧ s.ticket 47 = some k ∧ k.disposition = .good ∧
       k.stage = cycleFrom .cure ∧ k.target .cure = some 16 ∧ ¬ 16 ≤ k.credit .cure ∧
       k.presses + 1 ≤ s.params.repressLimit ∧ s.params.repressLimit < 1 + 1) ∧
      (let k := { ticketAt .printed with cureCredit := 16 }
       k.target .cure = some 16 ∧ 16 ≤ k.credit .cure) ∧
      (atWork .assigned none none).state = .assigned ∧ (atWork .releasing none none).state = .releasing ∧
      Head.reset.state ≠ .assigned := by decide +kernel

theorem witness_DeclineAndRestoreHead :
    (framed .press).inFrame .press ∧ (framed .order).inFrame .order ∧
      (framed .press).present .h1 = true ∧ (1 : Selector).toNat = headCode .h1 ∧
      (1 : Arg).getLsbD 0 = true ∧ (0 : Arg).getLsbD 0 = false ∧
      ∀ st ∈ [HeadState.free, .parked, .assigned, .closed, .releasing, .isolated, .declining],
        (withHead State.reset { Head.reset with state := st }).heads.h1.state = st := by decide +kernel

/-- Each timer running, and a GOOD ticket at and above the head retry limit of 3. -/
theorem witness_TimerExpiries :
    (∀ kind ∈ [TimerKind.close, .sample, .release, .park],
        (withHead State.reset (atWork .closed (some ⟨kind, 0⟩) none)).heads.h1.timer = some ⟨kind, 0⟩) ∧
      (let s := curing 0 (ticketAt .printed)
       (s.heads.get .h1).platen = some 47 ∧ s.ticket 47 = some (ticketAt .printed) ∧
         (ticketAt .printed).disposition = .good ∧ s.press.retryLimit ≠ 0 ∧
         min 255 (2 + 1) ≤ s.press.retryLimit ∧ s.press.retryLimit < min 255 (3 + 1)) ∧
      State.reset.heads.h0.timer ≠ some ⟨.close, 0⟩ ∧
      ({ ticketAt .printed with disposition := .void } : Ticket).disposition ≠ .good := by
  decide +kernel

/-- List positions 0 and 1 of a list of one, both words of a group, and both heads. -/
theorem witness_ReadBedPressAndThermal :
    (framed .press).inFrame .press ∧ (framed .print).inFrame .print ∧
      (let s := { framed .press with lists := ⟨[], [], [], [47]⟩ }
       ((3 : Arg).extractLsb' 0 2).toNat = listCode .dryStd ∧ (s.lists.get .dryStd)[0]? = some 47 ∧
         (s.lists.get .dryStd).length ≤ 1) ∧
      ((1 : Arg).extractLsb' 0 1).toNat = headCode .h1 ∧ (framed .press).present .h1 = true ∧
      ({ State.reset with press := { State.reset.press with headsPresent := 1 } } : State).present .h1 =
        false ∧
      (∀ m ∈ [none, some Assignment.release, some (.closeOn 47 .dry 120 true), some (.park .dry 120),
          some (.setpoint 120)], (atWork .free none m).mailbox = m) ∧
      ((1 : Arg).extractLsb' 0 8).toNat = bedCode .b ∧ (0 : Arg).getLsbD 31 = false ∧
      (0x80000000 : Arg).getLsbD 31 = true ∧
      (((0x80000001 : Arg).extractLsb' 0 8).toNat = bedCode .b ∧ (0x80000001 : Arg).getLsbD 31 = true) ∧
      ((printing (ticketAt .printing) (some ⟨15, .asc, 0, 1, 0, 0⟩)).beds.get .b).run =
        some ⟨15, .asc, 0, 1, 0, 0⟩ := by decide +kernel

/-- The last number of each table and the one past it, the last row and the one past it, and the mask
bounds. -/
theorem witness_ConfigReadsAndRefusals :
    (framed .order).inFrame .order ∧ paramOf 0x04 = some (.flat (.line .repressLimit)) ∧
      paramOf 0x05 = none ∧ paramOf 0x18 = some (.row (.fabric .wet)) ∧ paramOf 0x19 = none ∧
      paramOf 0x2A = some (.flat (.press .parkClass)) ∧ paramOf 0x2B = none ∧
      paramOf 0x3A = some (.row (.pass .maxSamples)) ∧ paramOf 0x3B = none ∧ paramOf 0x40 = none ∧
      ((0x00080000 : Arg).extractLsb' 16 8).toNat = 8 ∧
      ((0x00070000 : Arg).extractLsb' 16 8).toNat = (7 : FabricIx).val ∧
      ((0x00020000 : Arg).extractLsb' 16 8).toNat = 2 ∧
      ((0x00010000 : Arg).extractLsb' 16 8).toNat = classCode .cure ∧
      256 ≤ (256 : Word).toNat ∧ 4 ≤ (4 : Word).toNat ∧
      (framed .order).commissioningOpen = true ∧
      ({ framed .order with commissioningOpen := false } : State).commissioningOpen = false := by
  decide +kernel

theorem witness_ConfigWriteWithoutRows :
    (framed .order).inFrame .order ∧ (framed .order).commissioningOpen = true ∧
      (LineParam.matchPolicy.range.1 ≤ 1 ∧ 1 ≤ LineParam.matchPolicy.range.2) ∧
      (PressParam.parkDelay.range.1 ≤ 60 ∧ 60 ≤ PressParam.parkDelay.range.2) ∧
      paramOf 0x00 = some (.flat (.line .matchPolicy)) ∧ paramOf 0x01 = some (.flat (.line .platenCount)) ∧
      paramOf 0x20 = some (.flat (.press .headsPresent)) ∧ paramOf 0x21 = some (.flat (.press .mode)) ∧
      (let s := withPlaten (framed .order) (.bed .b) none
       clamp 1 48 47 ≤ (47 : PlatenIx).val ∧ (47 : PlatenIx).val < s.params.platenCount ∧
         s.location 47 ≠ .loadZone ∧ s.location 47 ≠ .transit) ∧
      (∀ i : PlatenIx, (framed .order).ticket i = none ∧ (framed .order).location i = .transit) ∧
      (framed .order).press.headsPresent = 2 ∧ (framed .order).heads.h1.state = .free ∧
      ({ State.reset.press with headsPresent := 1 } : PressParams).headsPresent ≠ 2 ∧
      (atWork .closed none none).state ≠ .free := by decide +kernel

/-- A single write of the last row, a wide write of every row, and a window that changes. -/
theorem witness_ConfigWriteToRows :
    ((framed .order).commissioningOpen = true ∧ ((framed .order).ports.get .order).ext = none ∧
        paramOf 0x12 = some (.row (.fabric .dmin)) ∧ paramOf 0x35 = some (.row (.pass .ceiling)) ∧
        ((0x00070000 : Arg).extractLsb' 16 8).toNat = (7 : FabricIx).val) ∧
      ((0xFF : Word).toNat < 2 ^ 8 ∧ ∀ i : FabricIx, (0xFF : Word).getLsbD i.val = true) ∧
      (FabricParam.cbase.range.1 ≤ 60000 ∧ 60000 ≤ FabricParam.cbase.range.2) ∧
      (PassParam.maxSamples.range.1 ≤ 1023 ∧ 1023 ≤ PassParam.maxSamples.range.2) ∧
      ((3 : Word).toNat < 2 ^ 2 ∧ (3 : Word).getLsbD 1 = true ∧ (1 : Word).getLsbD 1 = false) ∧
      (max 150 (State.reset.pass.get .cure).defSetpoint ≠ (State.reset.pass.get .cure).ceiling) := by
  decide +kernel

/-- A head at work and one that is not; a head that keeps no RELEASE at park delay 0, and at 1; and a
block being sent. -/
theorem witness_CloseCommissioningAndLineClear :
    (framed .order).inFrame .order ∧
      (withHead (framed .order) (atWork .closed none none)).heads.h1.state = .closed ∧
      (framed .order).heads.h0.state ≠ .assigned ∧
      ((untaken 0).heads.h1.mailbox = some (.closeOn 47 .cure 160 false) ∧
        (untaken 0).heads.h1.state = .assigned ∧ (untaken 0).heads.h1.declinePending = false ∧
        (untaken 0).press.parkDelay = 0 ∧ (untaken 1).press.parkDelay ≠ 0) ∧
      ({ framed .order with link := ⟨some ⟨.b, 15, 1, 1⟩, .b⟩ } : State).link.sending =
        some ⟨.b, 15, 1, 1⟩ := by decide +kernel

/-- A power-on and a reset by the pin. -/
theorem witness_FullReset :
    ResetCause.powerOn ≠ .pin ∧ State.reset.store = [] ∧ State.reset.link.sending = none ∧
      ({ State.reset with link := ⟨some ⟨.b, 15, 1, 1⟩, .b⟩ } : State).link.sending =
        some ⟨.b, 15, 1, 1⟩ := by decide +kernel

/-- A step that goes on from a state whose commissioning is closed, with no full reset in front. -/
theorem witness_CommissioningClosedKeepsParameters :
    let s := { State.reset with commissioningOpen := false, pending := [.preflightBlockRead] }
    s.commissioningOpen = false ∧ isFullReset .preflightBlockRead = false ∧
      step s = .next { State.reset with commissioningOpen := false } := ⟨rfl, rfl, rfl⟩

/-- A step that goes on from a state that meets the invariants. -/
theorem witness_StoreIsKept :
    let s := { State.reset with pending := [.preflightBlockRead] }
    StoreCanonical s ∧ mayWriteStore .preflightBlockRead = false ∧ step s = .next State.reset :=
  ⟨⟨List.Pairwise.nil, by simp [State.reset]⟩, rfl, rfl⟩

theorem witness_MailboxesStayShown :
    let s := { State.reset with pending := [.preflightBlockRead] }
    MailboxesShown s ∧ step s = .next State.reset :=
  ⟨by decide +kernel, rfl⟩

theorem witness_SetpointsStayHeld :
    let s := { State.reset with pending := [.preflightBlockRead] }
    SetpointsHeld s ∧ step s = .next State.reset :=
  ⟨by decide +kernel, rfl⟩

end Sys2Proof.Tests
end

section
/-! PROOF. POST_LINE's checks in their order (R5): what the two searches of the line table answer, the
block's answer at each check, and the frame around it. -/

namespace Sys2Proof

/-! ## Searching a table -/

theorem Table.exists_mem_cells_iff {α : Type} {n : Nat} {t : Table α n} {q : α → Prop} :
    (∃ x ∈ t.cells, q x) ↔ ∃ i, q (t.get i) := by
  constructor
  · rintro ⟨x, hx, hq⟩
    obtain ⟨k, hk, rfl⟩ := List.getElem_of_mem hx
    exact ⟨⟨k, t.size ▸ hk⟩, hq⟩
  · rintro ⟨i, hq⟩
    exact ⟨t.get i, List.getElem_mem _, hq⟩

theorem Table.findIx_eq_none_iff {α : Type} {n : Nat} {t : Table α n} {p : α → Bool} :
    t.findIx p = none ↔ ∀ i, p (t.get i) = false := by
  simp [Table.findIx]

namespace Machine

/-! ## The block's answer at each check of POST_LINE (R5) -/

theorem State.hasLine_iff {s : State} {ref : Word} {no : BitVec 3} :
    s.hasLine ref no = true ↔
      ∃ i, (s.lines.get i).state ≠ .free ∧ (s.lines.get i).orderRef = ref ∧
        (s.lines.get i).lineNo = no := by
  rw [← Table.exists_mem_cells_iff (t := s.lines)
    (q := fun l => l.state ≠ .free ∧ l.orderRef = ref ∧ l.lineNo = no)]
  simp [State.hasLine, and_assoc]

section
variable {sel : Selector} {arg : Arg} {s : State} {w : Word}

/-- Check 1: the extension word. -/
theorem bodyPostLine_of_no_ext (hext : s.ext .order = none) :
    bodyPostLine sel arg s = (answer0 .badState, s) := by
  simp [bodyPostLine, hext]

/-- Check 2: the order reference. -/
theorem bodyPostLine_of_ref_zero (hext : s.ext .order = some w) :
    bodyPostLine sel 0 s = (answer0 .notFound, s) := by
  simp [bodyPostLine, hext]

/-- Check 3: the artwork. -/
theorem bodyPostLine_of_artwork_free (hext : s.ext .order = some w) (href : arg ≠ 0)
    (hart : (s.artworks.get (lineSpec w).artwork).state = .free) :
    bodyPostLine sel arg s = (answer0 .notFound, s) := by
  simp only [bodyPostLine, hext, if_neg href, if_pos hart]

/-- Check 4: the key. -/
theorem bodyPostLine_of_hasLine (hext : s.ext .order = some w) (href : arg ≠ 0)
    (hart : (s.artworks.get (lineSpec w).artwork).state ≠ .free)
    (hkey : s.hasLine arg (sel.extractLsb' 0 3) = true) :
    bodyPostLine sel arg s = (answer0 .duplicate, s) := by
  simp only [bodyPostLine, hext, if_neg href, if_neg hart, if_pos hkey]

/-- Check 5: room in the table. -/
theorem bodyPostLine_of_table_full (hext : s.ext .order = some w) (href : arg ≠ 0)
    (hart : (s.artworks.get (lineSpec w).artwork).state ≠ .free)
    (hkey : ¬ s.hasLine arg (sel.extractLsb' 0 3) = true)
    (hroom : s.lines.findIx (fun l => l.state == .free) = none) :
    bodyPostLine sel arg s = (answer0 .full, s) := by
  simp only [bodyPostLine, hext, if_neg href, if_neg hart, if_neg hkey, hroom]

/-! ## The frame of POST_LINE -/

/-- A POST_LINE frame in progress is taken: the block's answer is left pending and the extension word
consumed (R171, R173). -/
theorem exec_postLine_taken (hrecv : s.inFrame .order) :
    exec (.postLine sel arg) s =
      .next ((bodyPostLine sel arg s).2.finish .order (bodyPostLine sel arg s).1 none) :=
  takeFrame_taken hrecv rfl

/-- A refusal by the block has no effect but the end of the frame. -/
theorem exec_postLine_of_refused {r : Result} (hrecv : s.inFrame .order)
    (hbody : bodyPostLine sel arg s = (answer0 r, s)) :
    exec (.postLine sel arg) s = .next (s.finish .order ⟨r, 0⟩ none) := by
  rw [exec_postLine_taken hrecv, hbody, answer0]

end

/-- Settles O13: at each check of R5 the block answers the check's code and leaves the state, and the
frame around it passes that on. -/
theorem postLineRefusals : Obligations.PostLineRefusals := by
  intro sel arg s hrecv no refusedWith
  have refused {r : Result} (hbody : bodyPostLine sel arg s = (answer0 r, s)) : refusedWith r :=
    exec_postLine_of_refused hrecv hbody
  refine ⟨fun hext => refused (bodyPostLine_of_no_ext hext), fun w hext =>
    ⟨?refZero, ?artworkFree, ?searches⟩⟩
  case refZero =>
    rintro rfl
    exact refused (bodyPostLine_of_ref_zero hext)
  case artworkFree =>
    exact fun href hart => refused (bodyPostLine_of_artwork_free hext href hart)
  case searches =>
    refine fun href hart => ⟨fun hdup => ?duplicate, fun hfull => ?full⟩
    case duplicate =>
      exact refused (bodyPostLine_of_hasLine hext href hart (State.hasLine_iff.mpr hdup))
    case full =>
      have hkey : ¬ s.hasLine arg no = true := by
        rw [State.hasLine_iff]
        rintro ⟨i, -, hsame⟩
        exact (hfull i).2 hsame
      have hroom : s.lines.findIx (fun l => l.state == .free) = none :=
        Table.findIx_eq_none_iff.mpr fun i => beq_false_of_ne (hfull i).1
      exact refused (bodyPostLine_of_table_full hext href hart hkey hroom)

end Machine

end Sys2Proof
end

section
/-! PROOF. The forced path of LOAD_SCAN (R20) and the bind it ends in (R21): the terms of the
statements about matching tied to the model's, the bind's whole effect, the answer of the path at each
check, and the frame around it. -/

namespace Sys2Proof.Machine

open Sys2Proof

/-! ## The bind (R13, R21) -/

theorem dose_eq_doseOf (row : FabricRow) (shade : Shade) (lw : Nat) :
    dose row shade lw = doseOf row shade lw := by
  cases shade with
  | dark => rfl
  | light =>
    cases lw with
    | zero => rfl
    | succ n => simp [dose, doseOf]

theorem newTicket_eq_boundTicket (s : State) (i : LineIx) : newTicket s i = boundTicket s i := by
  simp only [newTicket, boundTicket, boundDose, dose_eq_doseOf]
  rfl

/-- A change of a line that does not bring it to DONE raises nothing. -/
theorem State.updateLine_of_ne_done {s : State} {i : LineIx} {f : OrderLine → OrderLine}
    (h : (f (s.lines.get i)).rederive.state ≠ .done) :
    s.updateLine i f = { s with lines := s.lines.set i (f (s.lines.get i)).rederive } :=
  if_neg fun hdone => h hdone.1

/-- An OPEN line with a garment left takes a bind: FULL when that was its last one (R2, R13). -/
theorem OrderLine.rederive_bind {l : OrderLine} (hopen : l.state = .open_)
    (hroom : l.bound + l.finished < l.wanted) :
    l.bind.rederive =
      { l with bound := l.bound + 1, serial := boundSerial l,
               state := if l.bound + 1 + l.finished = l.wanted then .full else .open_ } := by
  have hderived : l.bind.derived =
      if l.bound + 1 + l.finished = l.wanted then .full else .open_ := by
    simp only [OrderLine.derived, OrderLine.bind, hopen]
    by_cases hlast : l.bound + 1 + l.finished = l.wanted
    · simp [hlast]
    · have hmore : l.bound + 1 + l.finished < l.wanted := by omega
      simp [hlast, hmore]
  simp only [OrderLine.rederive, hderived]
  rfl

theorem State.bind_eq_afterBind {s : State} {i : LineIx} (p : PlatenIx)
    (hopen : (s.lines.get i).state = .open_)
    (hroom : (s.lines.get i).bound + (s.lines.get i).finished < (s.lines.get i).wanted) :
    s.bind p i = afterBind s p i := by
  have hline := OrderLine.rederive_bind hopen hroom
  have hupdate := State.updateLine_of_ne_done (s := s) (i := i) (f := OrderLine.bind)
    (by rw [hline]; dsimp only; split <;> decide)
  simp only [State.bind, hupdate, hline, newTicket_eq_boundTicket]
  rfl

theorem bindAnswer_eq_afterBind {s : State} {i : LineIx} (p : PlatenIx)
    (hopen : (s.lines.get i).state = .open_)
    (hroom : (s.lines.get i).bound + (s.lines.get i).finished < (s.lines.get i).wanted) :
    bindAnswer s p i = (answer .ok [(8, i.val), (8, 0), (10, boundDose s i)], afterBind s p i) := by
  rw [bindAnswer, State.bind_eq_afterBind p hopen hroom, newTicket_eq_boundTicket]
  rfl

/-! ## The tests of a line -/

theorem OrderLine.wants_scanOf_iff {l : OrderLine} {arg : Arg} :
    l.wants (scanOf arg) = true ↔
      l.style = arg.extractLsb' 22 10 ∧ l.size = arg.extractLsb' 18 4 ∧
        l.colour = arg.extractLsb' 11 7 := by
  simp [OrderLine.wants, scanOf, and_assoc]

theorem State.artReady_iff {s : State} {l : OrderLine} :
    s.artReady l = true ↔ (s.artworks.get l.artwork).state = .ready := by
  simp [State.artReady]

/-! ## The forced path's answer at each check (R20) -/

section
variable {s : State} {w : Word} {p : PlatenIx} {k : Scan}

/-- Check 1: the word's value. -/
theorem forcedScan_of_word_high (hword : 255 < w.toNat) :
    forcedScan w p k s = (answer0 .notFound, s) :=
  if_pos hword

/-- Check 2: the line's state. -/
theorem forcedScan_of_not_open (hword : w.toNat ≤ 255)
    (hopen : (s.lines.get (lineAt w 0)).state ≠ .open_) :
    forcedScan w p k s = (answer0 .badState, s) := by
  simp only [forcedScan, if_neg hword.not_gt, if_pos hopen]

/-- Check 3: style, size and colour. -/
theorem forcedScan_of_unwanted (hword : w.toNat ≤ 255)
    (hopen : (s.lines.get (lineAt w 0)).state = .open_)
    (hwants : (s.lines.get (lineAt w 0)).wants k = false) :
    forcedScan w p k s = (answer0 .badState, s) := by
  simp only [forcedScan, if_neg hword.not_gt, if_neg (not_not_intro hopen), if_pos hwants]

/-- Check 4: the artwork. -/
theorem forcedScan_of_not_ready (hword : w.toNat ≤ 255)
    (hopen : (s.lines.get (lineAt w 0)).state = .open_)
    (hwants : (s.lines.get (lineAt w 0)).wants k = true)
    (hready : s.artReady (s.lines.get (lineAt w 0)) = false) :
    forcedScan w p k s = (answer0 .notReady, s) := by
  simp only [forcedScan, if_neg hword.not_gt, if_neg (not_not_intro hopen),
    if_neg (ne_false_of_eq_true hwants), if_pos hready]

/-- All four checks passed: the line is bound, whatever its held flag. -/
theorem forcedScan_of_passed (hword : w.toNat ≤ 255)
    (hopen : (s.lines.get (lineAt w 0)).state = .open_)
    (hwants : (s.lines.get (lineAt w 0)).wants k = true)
    (hready : s.artReady (s.lines.get (lineAt w 0)) = true) :
    forcedScan w p k s = bindAnswer s p (lineAt w 0) := by
  simp only [forcedScan, if_neg hword.not_gt, if_neg (not_not_intro hopen),
    if_neg (ne_false_of_eq_true hwants), if_neg (ne_false_of_eq_true hready)]

end

/-! ## The frame of LOAD_SCAN (R18) -/

section
variable {sel : Selector} {arg : Arg} {s : State} {p : PlatenIx} {w : Word}

theorem State.platenOf_eq_some {n : Nat} (hn : n = p.val) (hcount : p.val < s.params.platenCount) :
    s.platenOf n = some p := by
  subst hn
  simp [State.platenOf, hcount]

/-- A platen that passes R18's check goes to the forced path where the extension word is valid. -/
theorem bodyLoadScan_of_ext (hsel : sel.toNat = p.val) (hscan : Scannable s p)
    (hext : s.ext .order = some w) :
    bodyLoadScan sel arg s = forcedScan w p (scanOf arg) s := by
  obtain ⟨hcount, hticket, hloc⟩ := hscan
  have hplace : ¬ (s.location p ≠ .loadZone ∧ s.location p ≠ .transit) := by tauto
  simp only [bodyLoadScan, State.platenOf_eq_some hsel hcount, hticket, if_neg hplace, hext]
  rfl

/-- A LOAD_SCAN frame in progress is taken: the block's answer is left pending and the extension word
consumed (R171, R173). -/
theorem exec_loadScan_taken (hrecv : s.inFrame .order) :
    exec (.loadScan sel arg) s =
      .next ((bodyLoadScan sel arg s).2.finish .order (bodyLoadScan sel arg s).1 none) :=
  takeFrame_taken hrecv rfl

/-- A forced LOAD_SCAN of a platen that can be scanned ends its frame with the forced path's answer. -/
theorem exec_loadScan_forced {a : Answer} {t : State} (hrecv : s.inFrame .order)
    (hsel : sel.toNat = p.val) (hscan : Scannable s p) (hext : s.ext .order = some w)
    (hforced : forcedScan w p (scanOf arg) s = (a, t)) :
    exec (.loadScan sel arg) s = .next (t.finish .order a none) := by
  rw [exec_loadScan_taken hrecv, bodyLoadScan_of_ext hsel hscan hext, hforced]

end

/-- Settles O19: the frame passes on what the forced path answers, a refusal with the state kept at
each check of R20, and R21's bind after the last. -/
theorem loadScanForced : Obligations.LoadScanForced := by
  intro sel arg s p w hrecv hsel hscan hext i l asked refusedWith
  have passedOn {a : Answer} {t : State} (hforced : forcedScan w p (scanOf arg) s = (a, t)) :
      exec (.loadScan sel arg) s = .next (t.finish .order a none) :=
    exec_loadScan_forced hrecv hsel hscan hext hforced
  have hasked : l.wants (scanOf arg) = true ↔ asked := OrderLine.wants_scanOf_iff
  have hready : s.artReady l = true ↔ (s.artworks.get l.artwork).state = .ready :=
    State.artReady_iff
  refine ⟨?word, ?state, ?spec, ?artwork, ?bind⟩
  case word =>
    exact fun hword => passedOn (forcedScan_of_word_high hword)
  case state =>
    exact fun hword hopen => passedOn (forcedScan_of_not_open hword hopen)
  case spec =>
    intro hword hopen hspec
    exact passedOn (forcedScan_of_unwanted hword hopen
      (Bool.eq_false_iff.mpr (mt hasked.mp hspec)))
  case artwork =>
    intro hword hopen hspec hart
    exact passedOn (forcedScan_of_not_ready hword hopen (hasked.mpr hspec)
      (Bool.eq_false_iff.mpr (mt hready.mp hart)))
  case bind =>
    intro hword hopen hspec hart hroom
    exact passedOn ((forcedScan_of_passed hword hopen (hasked.mpr hspec) (hready.mpr hart)).trans
      (bindAnswer_eq_afterBind p hopen hroom))

end Sys2Proof.Machine
end

section
/-! PROOF. PRETREAT_START (R100, R101): the change of a ticketed platen's record in one write, the
block's answer at each check and for each kind of ticket, and the frame around it. -/

namespace Sys2Proof

theorem Table.set_set {α : Type} {n : Nat} (t : Table α n) (i : Fin n) (x y : α) :
    (t.set i x).set i y = t.set i y := by
  simp [Table.set]

/-- Two changes of one entry are one change. -/
theorem Table.modify_modify {α : Type} {n : Nat} (t : Table α n) (i : Fin n) (f g : α → α) :
    (t.modify i f).modify i g = t.set i (g (f (t.get i))) := by
  rw [Table.modify, Table.get_modify_self, Table.modify, Table.set_set]

namespace Machine

theorem packWord_singleton {w v : Nat} (h : v < 2 ^ w) :
    packWord [(w, v)] = BitVec.ofNat 32 v := by
  simp [packWord, pack, Nat.mod_eq_of_lt h]

/-! ## A ticketed platen changes place (R24, R42) -/

theorem Ticket.advance_of_at {k : Ticket} {start goal : Stage} (hgood : k.disposition = .good)
    (hstage : k.stage = start) : k.advance start goal = { k with stage := goal } :=
  if_pos ⟨hgood, hstage⟩

/-- A change of location and of ticket writes the platen's record once. -/
theorem State.modifyTicket_setLocation {s : State} {p : PlatenIx} {k : Ticket} {l : Location}
    {f : Ticket → Ticket} (hticket : s.ticket p = some k) :
    (s.setLocation p l).modifyTicket p f =
      { s with
          platens := s.platens.set p { s.platens.get p with location := l, ticket := some (f k) } } := by
  have hrecord : (s.platens.get p).ticket = some k := hticket
  simp only [State.modifyTicket, State.setLocation, State.modifyPlaten, Table.modify_modify, hrecord,
    Option.map_some]

theorem State.platenOf_eq_none {s : State} {n : Nat} (h : s.params.platenCount ≤ n) :
    s.platenOf n = none := by
  simp [State.platenOf, h.not_gt]

/-! ## The block's answer at each check of PRETREAT_START (R100) -/

section
variable {sel : Selector} {s : State} {p : PlatenIx}

/-- Check 1: the platen's number. -/
theorem bodyPretreatStart_of_number_high (hsel : s.params.platenCount ≤ sel.toNat) :
    bodyPretreatStart sel s = (answer0 .notFound, s) := by
  simp only [bodyPretreatStart, State.platenOf_eq_none hsel]

/-- Check 2: the platen's place. -/
theorem bodyPretreatStart_of_not_queued (hplaten : s.platenOf sel.toNat = some p)
    (hplace : s.location p ≠ .pretreatQueue) :
    bodyPretreatStart sel s = (answer0 .badState, s) := by
  simp only [bodyPretreatStart, hplaten, if_pos hplace]

/-- Check 3: the slot; the answer names the platen in it. -/
theorem bodyPretreatStart_of_slot_taken {x : PlatenIx} (hplaten : s.platenOf sel.toNat = some p)
    (hplace : s.location p = .pretreatQueue) (hslot : s.slot = some x) :
    bodyPretreatStart sel s = (⟨.busy, BitVec.ofNat 32 x.val⟩, s) := by
  have hnumber : x.val < 2 ^ 6 := by omega
  simp only [bodyPretreatStart, hplaten, if_neg (not_not_intro hplace), hslot, answer,
    packWord_singleton hnumber]

/-- All three checks passed: the ticket decides. -/
theorem bodyPretreatStart_of_passed (hplaten : s.platenOf sel.toNat = some p)
    (hplace : s.location p = .pretreatQueue) (hslot : s.slot = none) :
    bodyPretreatStart sel s = startSpray p s := by
  simp only [bodyPretreatStart, hplaten, if_neg (not_not_intro hplace), hslot]

end

/-! ## The answer by the platen's ticket (R101) -/

section
variable {s : State} {p : PlatenIx} {k : Ticket}

theorem startSpray_of_no_ticket (hticket : s.ticket p = none) :
    startSpray p s = (answer0 .pass, s.passPretreat p) := by
  simp only [startSpray, hticket]

theorem startSpray_of_not_good (hticket : s.ticket p = some k) (hgood : k.disposition ≠ .good) :
    startSpray p s = (answer0 .pass, s.passPretreat p) := by
  simp only [startSpray, hticket, if_pos hgood]

theorem startSpray_of_not_bound (hticket : s.ticket p = some k) (hgood : k.disposition = .good)
    (hstage : k.stage ≠ .bound) : startSpray p s = (answer0 .badState, s) := by
  simp only [startSpray, hticket, if_neg (not_not_intro hgood), if_pos hstage]

/-- A garment that needs no fluid leaves PRIMED. -/
theorem startSpray_of_dose_zero (hticket : s.ticket p = some k) (hgood : k.disposition = .good)
    (hstage : k.stage = .bound) (hdose : k.dose = 0) :
    startSpray p s =
      (answer0 .skip,
        { s with
            pretreatQueue := s.pretreatQueue.erase p
            platens := s.platens.set p
              { s.platens.get p with
                location := .transit
                ticket := some { k with stage := .primed } } }) := by
  have hkept : (s.leavePretreatQueue p).ticket p = some k := hticket
  simp only [startSpray, hticket, if_neg (not_not_intro hgood), if_neg (not_not_intro hstage),
    if_pos hdose, State.passPretreat, State.modifyTicket_setLocation hkept,
    Ticket.advance_of_at hgood hstage]
  rfl

/-- The first spray: the platen enters the slot PRETREATING and the answer carries the dose. -/
theorem startSpray_of_dose (hticket : s.ticket p = some k) (hgood : k.disposition = .good)
    (hstage : k.stage = .bound) (hdose : k.dose ≠ 0) :
    startSpray p s =
      (answer .ok [(10, k.dose), (3, 1)],
        { s with
            pretreatQueue := s.pretreatQueue.erase p
            slot := some p
            platens := s.platens.set p
              { s.platens.get p with
                location := .pretreatSlot
                ticket := some { k with stage := .pretreating, sprays := 1 } } }) := by
  have hkept : ({ s.leavePretreatQueue p with slot := some p } : State).ticket p = some k := hticket
  simp only [startSpray, hticket, if_neg (not_not_intro hgood), if_neg (not_not_intro hstage),
    if_neg hdose, State.enterSlot, State.modifyTicket_setLocation hkept,
    Ticket.advance_of_at hgood hstage]
  rfl

end

/-! ## The frame of PRETREAT_START -/

/-- A PRETREAT_START frame in progress is taken: the block's answer is left pending (R171, R173). -/
theorem exec_pretreatStart_taken {sel : Selector} {s u : State} {a : Answer}
    (hrecv : s.inFrame .pretreat) (hbody : bodyPretreatStart sel s = (a, u)) :
    exec (.pretreatStart sel) s = .next (u.finish .pretreat a none) := by
  have htaken : exec (.pretreatStart sel) s =
      .next ((bodyPretreatStart sel s).2.finish .pretreat (bodyPretreatStart sel s).1 none) :=
    takeFrame_taken hrecv rfl
  rw [htaken, hbody]

/-- Settles O35: the frame passes on what the block answers, a refusal with the state kept at each
check of R100, and after the last one the row of R101 that the platen's ticket meets. -/
theorem pretreatStart : Obligations.PretreatStart := by
  intro sel s hrecv put
  have passedOn {a : Answer} {u : State} (hbody : bodyPretreatStart sel s = (a, u)) : put u a :=
    exec_pretreatStart_taken hrecv hbody
  refine ⟨fun hsel => passedOn (bodyPretreatStart_of_number_high hsel), fun p hsel hcount => ?_⟩
  have hplaten : s.platenOf sel.toNat = some p := State.platenOf_eq_some hsel hcount
  refine ⟨?place, ?slot, fun hplace hslot => ?ticket⟩
  case place =>
    exact fun hplace => passedOn (bodyPretreatStart_of_not_queued hplaten hplace)
  case slot =>
    exact fun x hplace hslot => passedOn (bodyPretreatStart_of_slot_taken hplaten hplace hslot)
  case ticket =>
    have decided {a : Answer} {u : State} (hspray : startSpray p s = (a, u)) : put u a :=
      passedOn ((bodyPretreatStart_of_passed hplaten hplace hslot).trans hspray)
    refine ⟨fun hnone => decided (startSpray_of_no_ticket hnone),
      fun k hticket => ⟨?notGood, ?notBound, ?skip, ?spray⟩⟩
    case notGood =>
      exact fun hgood => decided (startSpray_of_not_good hticket hgood)
    case notBound =>
      exact fun hgood hstage => decided (startSpray_of_not_bound hticket hgood hstage)
    case skip =>
      exact fun hgood hstage hdose => decided (startSpray_of_dose_zero hticket hgood hstage hdose)
    case spray =>
      exact fun hgood hstage hdose => decided (startSpray_of_dose hticket hgood hstage hdose)

end Machine

end Sys2Proof
end

section
/-! PROOF. PRINT_START (R111, R112): what a bed's number names, the session a PRIMED platen opens, the
block's answer at each check and for each kind of ticket, and the frame around it. -/

namespace Sys2Proof.Machine

open Sys2Proof

/-! ## Numbers and codes (R182, section 11.4) -/

theorem bedOf_bedCode (bed : Bed) : bedOf (bedCode bed) = some bed := by
  cases bed <;> rfl

theorem bedOf_eq_none {n : Nat} (h : 2 ≤ n) : bedOf n = none := by
  match n, h with
  | _ + 2, _ => rfl

theorem packWord_stageCode (g : Stage) :
    packWord [(3, stageCode g)] = BitVec.ofNat 32 (stageCode g) :=
  packWord_singleton (by cases g <;> decide)

/-! ## The session opened for a PRIMED platen (R112) -/

/-- Opening a session takes the platen out of the queue, writes its record once (on the bed, PRINTING),
and sets the bed's session with no stripe run. -/
theorem State.openSession_eq {s : State} {bed : Bed} {p : PlatenIx} {k : Ticket}
    (hticket : s.ticket p = some k) (hgood : k.disposition = .good) (hstage : k.stage = .primed) :
    s.openSession bed p k =
      { s with
          printQueue := s.printQueue.erase p
          platens := s.platens.set p
            { s.platens.get p with
              location := .bed bed
              ticket := some { k with stage := .printing } }
          beds := s.beds.set bed ⟨true, p, k.artwork, k.line, 0, none⟩ } := by
  have hkept : (s.leavePrintQueue p).ticket p = some k := hticket
  simp only [State.openSession, State.modifyTicket_setLocation hkept,
    Ticket.advance_of_at hgood hstage]
  rfl

/-! ## The block's answer at each check of PRINT_START (R111) -/

section
variable {sel : Selector} {arg : Arg} {s : State} {bed : Bed} {p : PlatenIx}

/-- Check 1, the bed's number. -/
theorem bodyPrintStart_of_no_bed (hbed : bedOf sel.toNat = none) :
    bodyPrintStart sel arg s = (answer0 .notFound, s) := by
  simp only [bodyPrintStart, hbed]

/-- Check 1, the platen's number. -/
theorem bodyPrintStart_of_no_platen (hplaten : s.platenOf (bitsAt arg 0 8) = none) :
    bodyPrintStart sel arg s = (answer0 .notFound, s) := by
  simp only [bodyPrintStart, hplaten]
  cases bedOf sel.toNat <;> rfl

/-- Check 2: the bed's session; the answer names the platen on it. -/
theorem bodyPrintStart_of_active (hbed : bedOf sel.toNat = some bed)
    (hplaten : s.platenOf (bitsAt arg 0 8) = some p) (hactive : (s.beds.get bed).active = true) :
    bodyPrintStart sel arg s = (⟨.busy, BitVec.ofNat 32 (s.beds.get bed).platen.val⟩, s) := by
  have hnumber : (s.beds.get bed).platen.val < 2 ^ 6 := by omega
  simp only [bodyPrintStart, hbed, hplaten, if_pos hactive, answer, packWord_singleton hnumber]

/-- Check 3: the platen's place. -/
theorem bodyPrintStart_of_not_queued (hbed : bedOf sel.toNat = some bed)
    (hplaten : s.platenOf (bitsAt arg 0 8) = some p) (hidle : (s.beds.get bed).active = false)
    (hplace : s.location p ≠ .printQueue) :
    bodyPrintStart sel arg s = (answer0 .badState, s) := by
  simp only [bodyPrintStart, hbed, hplaten, if_neg (ne_true_of_eq_false hidle), if_pos hplace]

/-- All checks passed: the ticket decides. -/
theorem bodyPrintStart_of_passed (hbed : bedOf sel.toNat = some bed)
    (hplaten : s.platenOf (bitsAt arg 0 8) = some p) (hidle : (s.beds.get bed).active = false)
    (hplace : s.location p = .printQueue) :
    bodyPrintStart sel arg s = startPrint bed p s := by
  simp only [bodyPrintStart, hbed, hplaten, if_neg (ne_true_of_eq_false hidle),
    if_neg (not_not_intro hplace)]

end

/-! ## The answer by the platen's ticket (R112) -/

section
variable {s : State} {bed : Bed} {p : PlatenIx} {k : Ticket}

theorem startPrint_of_no_ticket (hticket : s.ticket p = none) :
    startPrint bed p s = (answer0 .pass, s.passPrint p) := by
  simp only [startPrint, hticket]

theorem startPrint_of_not_good (hticket : s.ticket p = some k) (hgood : k.disposition ≠ .good) :
    startPrint bed p s = (answer0 .pass, s.passPrint p) := by
  simp only [startPrint, hticket, if_pos hgood]

/-- A garment not yet PRIMED is not ready; the answer names its stage. -/
theorem startPrint_of_not_primed (hticket : s.ticket p = some k) (hgood : k.disposition = .good)
    (hstage : k.stage = .bound ∨ k.stage = .pretreated) :
    startPrint bed p s = (⟨.notReady, BitVec.ofNat 32 (stageCode k.stage)⟩, s) := by
  rcases hstage with hstage | hstage <;>
    simp only [startPrint, hticket, if_neg (not_not_intro hgood), hstage, answer, packWord_stageCode]

/-- A garment already printed is refused; the answer names its stage. -/
theorem startPrint_of_printed (hticket : s.ticket p = some k) (hgood : k.disposition = .good)
    (hstage : k.stage = .printed ∨ k.stage = .cured) :
    startPrint bed p s = (⟨.badState, BitVec.ofNat 32 (stageCode k.stage)⟩, s) := by
  rcases hstage with hstage | hstage <;>
    simp only [startPrint, hticket, if_neg (not_not_intro hgood), hstage, answer, packWord_stageCode]

/-- A PRIMED garment opens the session; the answer names its artwork and line. -/
theorem startPrint_of_primed (hticket : s.ticket p = some k) (hgood : k.disposition = .good)
    (hstage : k.stage = .primed) :
    startPrint bed p s =
      (answer .ok [(6, k.artwork.val), (8, k.line.val)], s.openSession bed p k) := by
  simp only [startPrint, hticket, if_neg (not_not_intro hgood), hstage]

end

/-! ## The frame of PRINT_START -/

/-- A PRINT_START frame in progress is taken: the block's answer is left pending (R171, R173). -/
theorem exec_printStart_taken {sel : Selector} {arg : Arg} {s u : State} {a : Answer}
    (hrecv : s.inFrame .print) (hbody : bodyPrintStart sel arg s = (a, u)) :
    exec (.printStart sel arg) s = .next (u.finish .print a none) := by
  have htaken : exec (.printStart sel arg) s =
      .next ((bodyPrintStart sel arg s).2.finish .print (bodyPrintStart sel arg s).1 none) :=
    takeFrame_taken hrecv rfl
  rw [htaken, hbody]

/-- Settles O37: the frame passes on what the block answers, a refusal with the state kept at each
check of R111, and after the last one the row of R112 that the platen's ticket meets. -/
theorem printStart : Obligations.PrintStart := by
  intro sel arg s hrecv n put
  have passedOn {a : Answer} {u : State} (hbody : bodyPrintStart sel arg s = (a, u)) : put u a :=
    exec_printStart_taken hrecv hbody
  refine ⟨?notFound, fun bed p hsel hn hcount => ?found⟩
  case notFound =>
    rintro (hsel | hn)
    · exact passedOn (bodyPrintStart_of_no_bed (bedOf_eq_none hsel))
    · exact passedOn (bodyPrintStart_of_no_platen (State.platenOf_eq_none hn))
  case found =>
    have hbed : bedOf sel.toNat = some bed := hsel ▸ bedOf_bedCode bed
    have hplaten : s.platenOf n = some p := State.platenOf_eq_some hn hcount
    refine ⟨?busy, ?place, fun hidle hplace => ?ticket⟩
    case busy =>
      exact fun hactive => passedOn (bodyPrintStart_of_active hbed hplaten hactive)
    case place =>
      exact fun hidle hplace => passedOn (bodyPrintStart_of_not_queued hbed hplaten hidle hplace)
    case ticket =>
      have decided {a : Answer} {u : State} (hprint : startPrint bed p s = (a, u)) : put u a :=
        passedOn ((bodyPrintStart_of_passed hbed hplaten hidle hplace).trans hprint)
      refine ⟨fun hnone => decided (startPrint_of_no_ticket hnone),
        fun k hticket => ⟨?notGood, ?notPrimed, ?printed, ?primed⟩⟩
      case notGood =>
        exact fun hgood => decided (startPrint_of_not_good hticket hgood)
      case notPrimed =>
        exact fun hgood hstage => decided (startPrint_of_not_primed hticket hgood hstage)
      case printed =>
        exact fun hgood hstage => decided (startPrint_of_printed hticket hgood hstage)
      case primed =>
        intro hgood hstage
        have hopened := startPrint_of_primed (bed := bed) hticket hgood hstage
        rw [State.openSession_eq hticket hgood hstage] at hopened
        exact decided hopened

end Sys2Proof.Machine
end

section
/-! PROOF. The four checks of a frame in their order and a refused frame's only effect (R170), and the
answer of READ_ID (R179): what a code names, the receiver's judgement at each check, the clock edges as
one write of their port, and the frames around them. -/

namespace Sys2Proof

/-! ## Command codes (R172) -/

theorem Cmd.mem_all (c : Cmd) : c ∈ Cmd.all := by
  cases c <;> decide

theorem Cmd.ofCode_eq_none_iff {code : BitVec 8} :
    Cmd.ofCode code = none ↔ ∀ c : Cmd, c.code ≠ code := by
  simp [Cmd.ofCode, Cmd.mem_all]

/-- No two commands share a code. -/
@[simp] theorem Cmd.ofCode_code (c : Cmd) : Cmd.ofCode c.code = some c := by
  cases c <;> rfl

/-! ## The receiver's judgement at each check (R170) -/

section
variable {p : Port} {r : Receiver} {c : Cmd}

/-- Check 1: the length. -/
theorem judgeFrame_of_length (hlength : r.edges ≠ 56) : judgeFrame p r = .error .length :=
  if_pos hlength

/-- Checks 2 to 4 are the decoder's, on the 56 bits received. -/
theorem judgeFrame_of_whole (hlength : r.edges = 56) : judgeFrame p r = decodeFrame p r.bits :=
  if_neg (not_not_intro hlength)

variable {f : BitVec 56}

/-- Check 2: the check field. -/
theorem decodeFrame_of_check (hcheck : frameCheck f ≠ checkCode (frameBody f)) :
    decodeFrame p f = .error .check :=
  if_pos hcheck

/-- Check 3: the command code. -/
theorem decodeFrame_of_unknown (hcheck : frameCheck f = checkCode (frameBody f))
    (hcode : ∀ c : Cmd, c.code ≠ frameCode f) : decodeFrame p f = .error .unknown := by
  simp only [decodeFrame, if_neg (not_not_intro hcheck), Cmd.ofCode_eq_none_iff.mpr hcode]

/-- Check 4: the port's role. -/
theorem decodeFrame_of_role (hcheck : frameCheck f = checkCode (frameBody f))
    (hcode : c.code = frameCode f) (hrole : c.acceptedOn p = false) :
    decodeFrame p f = .error .role := by
  simp [decodeFrame, if_neg (not_not_intro hcheck), ← hcode, hrole]

/-- A frame that passes every check carries the command of its fields. -/
theorem decodeFrame_of_passed (hcheck : frameCheck f = checkCode (frameBody f))
    (hcode : c.code = frameCode f) (hrole : c.acceptedOn p = true) :
    decodeFrame p f = .ok (Instr.ofFields c p (frameS f) (frameSel f) (frameArg f)) := by
  simp [decodeFrame, if_neg (not_not_intro hcheck), ← hcode, hrole]

end

/-! ## Writes of one port -/

/-- Two changes of one port are one change. -/
theorem PerPort.modify_modify {α : Type} (t : PerPort α) (i : Port) (f g : α → α) :
    (t.modify i f).modify i g = t.modify i fun x => g (f x) := by
  cases i <;> rfl

theorem PerPort.modify_congr {α : Type} {t : PerPort α} {i : Port} {f g : α → α}
    (h : f (t.get i) = g (t.get i)) : t.modify i f = t.modify i g := by
  simp only [PerPort.modify, h]

namespace Machine

theorem State.modifyPort_modifyPort (s : State) (p : Port) (f g : PortState → PortState) :
    (s.modifyPort p f).modifyPort p g = s.modifyPort p fun ps => g (f ps) := by
  simp only [State.modifyPort, PerPort.modify_modify]

theorem State.modifyPort_congr {s : State} {p : Port} {f g : PortState → PortState}
    (h : f (s.ports.get p) = g (s.ports.get p)) : s.modifyPort p f = s.modifyPort p g := by
  simp only [State.modifyPort, PerPort.modify_congr h]

/-! ## The end of a refused frame (R168, R170) -/

section
variable {p : Port} {bits : List Bool} {s : State} {why : RefusalReason}

/-- The clock edges after a select assertion leave the received bits in the receiver. -/
theorem State.shiftIn_receiver (hstart : (s.ports.get p).receiver = some ⟨0, 0⟩) :
    ((s.shiftIn p bits).ports.get p).receiver = some (receive bits) := by
  simp [State.shiftIn, PortState.clock_foldl, hstart, receive, Receiver.start]

theorem State.judge_of_refused {r : Receiver} (hrecv : (s.ports.get p).receiver = some r)
    (hjudge : judgeFrame p r = .error why) : s.judge p = .next (s.refuseFrame p why) := by
  simp only [State.judge, hrecv, hjudge]

/-- The clock edges and the refusal that ends them write their port once. -/
theorem State.refuseFrame_shiftIn :
    (s.shiftIn p bits).refuseFrame p why =
      s.modifyPort p fun ps =>
        { ps with
          selectAsserted := false
          receiver := none
          driven := ps.driven ++
            (List.range' ps.driven.length bits.length).map (replyBit ps.sent)
          reply := ⟨true, why, .none, 0⟩ } := by
  simp only [State.shiftIn, State.refuseFrame, State.endFrame, State.modifyPort_modifyPort,
    PortState.clock_foldl]

/-- A frame in progress is judged after its clock edges, in the state as it stands. -/
theorem exec_frameRefused_receiving (hrecv : s.inFrame p) :
    exec (.frameRefused p bits) s = (s.shiftIn p bits).judge p := by
  have hexec : exec (.frameRefused p bits) s = execFrameRefused p bits s := rfl
  simp only [hexec, execFrameRefused, State.openFrame_of_receiving hrecv]

theorem exec_frameRefused_of_refused (hstart : (s.ports.get p).receiver = some ⟨0, 0⟩)
    (hjudge : judgeFrame p (receive bits) = .error why) :
    exec (.frameRefused p bits) s = .next ((s.shiftIn p bits).refuseFrame p why) := by
  have hrecv : s.inFrame p := by simp [State.inFrame, hstart]
  rw [exec_frameRefused_receiving hrecv,
    State.judge_of_refused (State.shiftIn_receiver hstart) hjudge]

end

/-- Settles O6: the judgement is read off at each check of R170, and a refused frame is one write of its
port, the bits driven being those of its clock edges. -/
theorem refusedFrameOnlyAnswers : Obligations.RefusedFrameOnlyAnswers := by
  refine ⟨fun p r => ⟨judgeFrame_of_length, ?check, ?unknown, ?role, ?passed⟩, ?effect⟩
  case check =>
    exact fun hlength hcheck => (judgeFrame_of_whole hlength).trans (decodeFrame_of_check hcheck)
  case unknown =>
    exact fun hlength hcheck hcode =>
      (judgeFrame_of_whole hlength).trans (decodeFrame_of_unknown hcheck hcode)
  case role =>
    exact fun c hlength hcheck hcode hrole =>
      (judgeFrame_of_whole hlength).trans (decodeFrame_of_role hcheck hcode hrole)
  case passed =>
    exact fun c hlength hcheck hcode hrole =>
      (judgeFrame_of_whole hlength).trans (decodeFrame_of_passed hcheck hcode hrole)
  case effect =>
    intro p bits s why hstart hjudge
    rw [exec_frameRefused_of_refused hstart hjudge, State.refuseFrame_shiftIn]
    exact ⟨_, congrArg _ (State.modifyPort_congr rfl)⟩

/-! ## READ_ID (R179) -/

/-- The revision, the part code and the port's number, from bit 0 upward (section 11.4). -/
theorem bodyReadId_eq (p : Port) (s : State) :
    bodyReadId p s = (⟨.ok, BitVec.ofNat 32 (0x4801 + 0x10000 * portCode p)⟩, s) := by
  cases p <;> rfl

theorem exec_readId_taken {p : Port} {s : State} (hrecv : s.inFrame p) :
    exec (.readId p) s = .next ((bodyReadId p s).2.finish p (bodyReadId p s).1 none) :=
  takeFrame_taken hrecv rfl

/-- Settles O10: every port accepts READ_ID, and its block answers from the port's number alone. -/
theorem readIdAnswers : Obligations.ReadIdAnswers := by
  intro p s hrecv
  rw [exec_readId_taken hrecv, bodyReadId_eq]
  cases p <;> rfl

end Machine

end Sys2Proof
end

section
/-! PROOF. What every step keeps: the part of the state that the invariants speak of, the shared
operations that leave it alone, and the relation `Keeps` that each command's step meets. -/

namespace Sys2Proof.Machine

open Sys2Proof

/-! ## What the invariants speak of -/

/-- The fields that the invariants of every step speak of. -/
structure Essence where
  commissioningOpen : Bool
  params            : Params
  fabric            : Table FabricRow 8
  press             : PressParams
  pass              : PerClass PassRow
  store             : Memory
  powerOns          : Nat
  shown             : PerHead Notice
  heads             : PerHead Head
  thermal           : PerHead Thermal

def State.essence (s : State) : Essence :=
  { commissioningOpen := s.commissioningOpen, params := s.params, fabric := s.fabric,
    press := s.press, pass := s.pass, store := s.store, powerOns := s.powerOns,
    shown := ⟨s.notice (.assignment .h0), s.notice (.assignment .h1)⟩,
    heads := s.heads, thermal := s.thermal }

/-! ## Writes of a record outside the press -/

section
variable (s : State)

@[simp] theorem State.modifyLine_essence (i : LineIx) (f : OrderLine → OrderLine) :
    (s.modifyLine i f).essence = s.essence := rfl
@[simp] theorem State.modifyPlaten_essence (i : PlatenIx) (f : Platen → Platen) :
    (s.modifyPlaten i f).essence = s.essence := rfl
@[simp] theorem State.modifyArtwork_essence (i : ArtIx) (f : Artwork → Artwork) :
    (s.modifyArtwork i f).essence = s.essence := rfl
@[simp] theorem State.modifyBed_essence (bed : Bed) (f : Session → Session) :
    (s.modifyBed bed f).essence = s.essence := rfl
@[simp] theorem State.setLocation_essence (i : PlatenIx) (l : Location) :
    (s.setLocation i l).essence = s.essence := rfl
@[simp] theorem State.modifyTicket_essence (i : PlatenIx) (f : Ticket → Ticket) :
    (s.modifyTicket i f).essence = s.essence := rfl
@[simp] theorem State.modifySegment_essence (a : ArtIx) (g : SegIx) (f : Segment → Segment) :
    (s.modifySegment a g f).essence = s.essence := rfl
@[simp] theorem State.setList_essence (l : RackList) (q : List PlatenIx) :
    (s.setList l q).essence = s.essence := rfl
@[simp] theorem State.transmit_essence (ws : List StripeOut) :
    (s.transmit ws).essence = s.essence := rfl

end

/-! ## Writes of a port -/

/-- A write of a port that leaves its notices alone. -/
theorem State.modifyPort_essence {s : State} {p : Port} {f : PortState → PortState}
    (h : ∀ ps, (f ps).notices = ps.notices) : (s.modifyPort p f).essence = s.essence := by
  cases p <;> simp [State.essence, State.notice, NoticeKind.port, PerPort.modify, PerPort.get,
    PerPort.set, h]

/-- A notice of another kind than the assignments of the heads. -/
theorem State.setNotice_essence {s : State} {k : NoticeKind} {n : Notice}
    (h : ∀ x, k ≠ .assignment x) : (s.setNotice k n).essence = s.essence := by
  cases k with
  | assignment x => exact absurd rfl (h x)
  | stripeEnd bed => cases bed <;> rfl
  | lineCleared p =>
    cases p with
    | press => simp [State.essence, State.notice, NoticeKind.port, NoticeKind.index, PerPort.modify,
        PerPort.get, PerPort.set]
    | _ => rfl
  | _ => rfl

@[simp] theorem State.raise_essence {s : State} {k : NoticeKind} {d : List Field}
    (h : ∀ x, k ≠ .assignment x) : (s.raise k d).essence = s.essence :=
  State.setNotice_essence h

section
variable (s : State) (p : Port)

@[simp] theorem State.assertSelect_essence : (s.assertSelect p).essence = s.essence :=
  State.modifyPort_essence fun _ => rfl
@[simp] theorem State.driveReply_essence : (s.driveReply p).essence = s.essence :=
  State.modifyPort_essence fun _ => rfl
@[simp] theorem State.releaseSelect_essence : (s.releaseSelect p).essence = s.essence :=
  State.modifyPort_essence fun _ => rfl
@[simp] theorem State.refuseFrame_essence (why : RefusalReason) :
    (s.refuseFrame p why).essence = s.essence :=
  State.modifyPort_essence fun _ => rfl
@[simp] theorem State.finish_essence (a : Answer) (e : Option Word) :
    (s.finish p a e).essence = s.essence :=
  State.modifyPort_essence fun _ => rfl

theorem State.openFrame_essence {s s1 : State} {p : Port} (h : s.openFrame p = some s1) :
    s1.essence = s.essence := by
  rcases State.openFrame_cases h with rfl | rfl
  · rfl
  · exact s.assertSelect_essence p

@[simp] theorem State.shiftIn_essence (bits : List Bool) :
    (s.shiftIn p bits).essence = s.essence :=
  State.modifyPort_essence fun ps => by rw [PortState.clock_foldl]

end

/-! ## The shared operations of the blocks outside the press -/

section
variable (s : State)

@[simp] theorem State.updateLine_essence (i : LineIx) (f : OrderLine → OrderLine) :
    (s.updateLine i f).essence = s.essence := by
  rcases s.updateLine_cases i f with h | ⟨-, h⟩
  · rw [h]; rfl
  · rw [h, State.raise_essence (by simp)]; rfl

@[simp] theorem State.spoil_essence (i : PlatenIx) (why : SpoilReason) :
    (s.spoil i why).essence = s.essence := by
  rcases s.spoil_cases i why with h | ⟨t, -, -, h⟩ <;> simp [h]

@[simp] theorem State.recordFault_essence (side : Side) (flags : AccessFlags) (o : FaultOrigin)
    (a : ArtIx) (g : SegIx) (at_ : AccessBlock) (bed : Bed) :
    (s.recordFault side flags o a g at_ bed).essence = s.essence := by
  rcases s.recordFault_cases side flags o a g at_ bed with h | ⟨r, d, -, h⟩
  · rw [h]; rfl
  · rw [h, State.raise_essence (by cases side <;> simp [faultKind])]; rfl

@[simp] theorem State.endLoadRun_essence (r : LoadRun) (o : LoadOutcome) :
    (s.endLoadRun r o).essence = s.essence := by
  rw [State.endLoadRun, State.raise_essence (by simp)]; rfl

@[simp] theorem State.joinHead_essence (l : RackList) (p : PlatenIx) :
    (s.joinHead l p).essence = s.essence := rfl
@[simp] theorem State.joinTail_essence (l : RackList) (p : PlatenIx) :
    (s.joinTail l p).essence = s.essence := rfl
@[simp] theorem State.leaveList_essence (l : RackList) (p : PlatenIx) :
    (s.leaveList l p).essence = s.essence := rfl

@[simp] theorem State.sendPlaten_essence (h : HeadId) (o : PressOutcome) :
    (s.sendPlaten h o).essence = s.essence := by
  rcases s.sendPlaten_cases h o with e | ⟨p, -, e | e⟩ <;> simp [e]

@[simp] theorem State.movePointers_essence (l : RackList) :
    (s.movePointers l).essence = s.essence := by
  unfold State.movePointers
  cases s.press.mode
  · cases l <;> rfl
  · rfl

/-! ## The stripe link -/

@[simp] theorem State.endStripeRun_essence (bed : Bed) (r : StripeRun) (o : StripeOutcome) :
    (s.endStripeRun bed r o).essence = s.essence := by
  simp [State.endStripeRun]

@[simp] theorem State.judgeStep_essence (bed : Bed) : (s.judgeStep bed).essence = s.essence := by
  unfold State.judgeStep
  dsimp only
  split
  · rfl
  · split
    · simp
    · rfl

@[simp] theorem State.handOnce_essence : s.handOnce.essence = s.essence := by
  unfold State.handOnce
  split
  · rfl
  · split
    · exact s.judgeStep_essence _
    · rfl

@[simp] theorem State.handLink_essence : s.handLink.essence = s.essence := by
  simp [State.handLink]

@[simp] theorem State.idleFrom_essence (before : State) :
    (s.idleFrom before).essence = s.essence := by
  rcases s.idleFrom_cases before with h | ⟨-, h⟩ <;> rw [h]
  rfl

@[simp] theorem State.cutSend_essence (bed : Bed) : (s.cutSend bed).essence = s.essence := by
  rcases s.cutSend_cases bed with h | ⟨k, -, -, h⟩ <;> rw [h]
  rfl

@[simp] theorem State.cutRun_essence (bed : Bed) (r : StripeRun) :
    (s.cutRun bed r).essence = s.essence := by
  simp [State.cutRun]

@[simp] theorem State.completeSend_essence (k : Sending) :
    (s.completeSend k).essence = s.essence := by
  have hfree : ({ s with link := { s.link with sending := none } } : State).essence = s.essence := rfl
  unfold State.completeSend
  dsimp only
  split
  · simp [hfree]
  · split <;> simp [hfree]

@[simp] theorem State.cutForEnd_essence (bed : Bed) : (s.cutForEnd bed).essence = s.essence := by
  unfold State.cutForEnd
  split
  · exact s.cutRun_essence bed _
  · rfl

@[simp] theorem State.closeSession_essence (bed : Bed) :
    (s.closeSession bed).essence = s.essence := rfl

/-! ## Preflight -/

@[simp] theorem State.completePreflight_essence (a : ArtIx) :
    (s.completePreflight a).essence = s.essence := by
  rw [State.completePreflight, State.raisePreflightEnd, State.raise_essence (by simp)]; rfl

@[simp] theorem State.finishSegment_essence (n : Nat) : (s.finishSegment n).essence = s.essence := by
  unfold State.finishSegment
  dsimp only
  split
  · rfl
  · simp

@[simp] theorem State.scanBlock_essence : s.scanBlock.essence = s.essence := by
  have hengine (e : Engine) : ({ s with engine := e } : State).essence = s.essence := rfl
  unfold State.scanBlock
  dsimp only
  split
  · rw [State.finishSegment_essence, hengine]
  · exact hengine _

@[simp] theorem State.startPreflight_essence (a : ArtIx) (mode : PreflightMode) :
    (s.startPreflight a mode).essence = s.essence := by
  unfold State.startPreflight
  dsimp only
  split
  · simp
  · rfl

@[simp] theorem State.abandonPreflight_essence : s.abandonPreflight.essence = s.essence := by
  rw [State.abandonPreflight, State.raisePreflightEnd, State.raise_essence (by simp)]; rfl

/-! ## Tickets and platens -/

@[simp] theorem State.bind_essence (p : PlatenIx) (i : LineIx) : (s.bind p i).essence = s.essence := by
  simp [State.bind]

@[simp] theorem State.removeTicket_essence (p : PlatenIx) (t : Ticket) :
    (s.removeTicket p t).essence = s.essence := rfl

@[simp] theorem State.unloadTicket_essence (p : PlatenIx) (t : Ticket) :
    (s.unloadTicket p t).essence = s.essence := by
  unfold State.unloadTicket
  split <;> simp

@[simp] theorem State.takeOut_essence (port : Port) (p : PlatenIx) :
    (s.takeOut port p).1.essence = s.essence := by
  unfold State.takeOut
  dsimp only
  split
  · rw [State.raise_essence (by simp)]; rfl
  · rw [State.raise_essence (by simp)]; rfl
  · rw [State.raise_essence (by simp)]; rfl
  · rfl

@[simp] theorem State.voidTickets_essence (ps : List PlatenIx) :
    (ps.foldl State.voidTicket s).essence = s.essence := by
  induction ps generalizing s with
  | nil => rfl
  | cons p ps ih => rw [List.foldl_cons, ih]; rfl

@[simp] theorem State.judgeShort_essence (p : PlatenIx) (c : PassClass) :
    (s.judgeShort p c).1.essence = s.essence := by
  unfold State.judgeShort
  dsimp only
  split <;> simp

end

end Sys2Proof.Machine
end

section
/-! PROOF. The relation that every step meets, and the shared operations of the press that meet it. -/

namespace Sys2Proof.Machine

open Sys2Proof

/-! ## The invariants, one head's cycle left out -/

/-- A present head's setpoint lies in the window of its class (R151). -/
def State.inWindow (s : State) (h : HeadId) : Prop :=
  s.present h = true →
    (s.pass.get (s.heads.get h).cls).defSetpoint ≤ (s.thermal.get h).setpoint ∧
      (s.thermal.get h).setpoint ≤ (s.pass.get (s.heads.get h).cls).ceiling

/-- The cycle of a CLOSED head is in the head's class (R135, R152). -/
def State.cycleHeld (s : State) (h : HeadId) : Prop :=
  (s.heads.get h).state = .closed → (s.thermal.get h).cycle.cls = (s.heads.get h).cls

/-- The windows and setpoints hold; of the head `e`, whose cycle has been ended and which is about to
leave CLOSED, the cycle is left out. -/
structure HeldSave (e : Option HeadId) (s : State) : Prop where
  windows : WindowsHeld s
  window  : ∀ h, s.inWindow h
  cycle   : ∀ h, e ≠ some h → s.cycleHeld h

theorem setpointsHeld_iff {s : State} : SetpointsHeld s ↔ HeldSave none s := by
  constructor
  · rintro ⟨hw, ⟨h0w, h0c⟩, h1w, h1c⟩
    refine ⟨hw, fun h => ?_, fun h _ => ?_⟩
    · cases h
      · exact h0w
      · exact h1w
    · cases h
      · exact h0c
      · exact h1c
  · rintro ⟨hw, hwin, hcyc⟩
    exact ⟨hw, ⟨hwin .h0, hcyc .h0 nofun⟩, hwin .h1, hcyc .h1 nofun⟩

theorem HeldSave.weaken {e : Option HeadId} {s : State} (h : HeldSave none s) : HeldSave e s :=
  ⟨h.windows, h.window, fun x _ => h.cycle x nofun⟩

/-- What the setpoint invariant reads of a state. -/
theorem HeldSave.congr {e : Option HeadId} {s t : State} (h : HeldSave e s)
    (hfabric : t.fabric = s.fabric) (hpass : t.pass = s.pass)
    (hpresent : t.press.headsPresent = s.press.headsPresent) (hheads : t.heads = s.heads)
    (hthermal : t.thermal = s.thermal) : HeldSave e t := by
  have hp (x : HeadId) : t.present x = s.present x := by cases x <;> simp [State.present, hpresent]
  obtain ⟨hw, hwin, hcyc⟩ := h
  constructor
  · rwa [WindowsHeld, hfabric, hpass]
  · intro x
    simpa only [State.inWindow, hp, hpass, hheads, hthermal] using hwin x
  · intro x hx
    simpa only [State.cycleHeld, hheads, hthermal] using hcyc x hx

/-! ## The relation that steps meet -/

/-- What every step but a full reset and a block of a load run does to the part that the invariants
speak of. Closed commissioning and its parameters stand, the store stands, and the invariants on
mailboxes and setpoints are kept; `e` and `e'` name a head whose cycle may be out of its class before
and after. -/
structure Keeps (e e' : Option HeadId) (s t : State) : Prop where
  closed : s.commissioningOpen = false →
    t.commissioningOpen = false ∧ t.params = s.params ∧ t.fabric = s.fabric ∧ t.press = s.press ∧
      t.pass = s.pass
  store  : t.store = s.store ∧ t.powerOns = s.powerOns
  shown  : MailboxesShown s → MailboxesShown t
  held   : HeldSave e s → HeldSave e' t

theorem Keeps.trans {a b c : Option HeadId} {s t u : State} (h1 : Keeps a b s t)
    (h2 : Keeps b c t u) : Keeps a c s u where
  closed h := by
    obtain ⟨ht, hparams, hfabric, hpress, hpass⟩ := h1.closed h
    obtain ⟨hu, hparams', hfabric', hpress', hpass'⟩ := h2.closed ht
    exact ⟨hu, hparams'.trans hparams, hfabric'.trans hfabric, hpress'.trans hpress,
      hpass'.trans hpass⟩
  store := ⟨h2.store.1.trans h1.store.1, h2.store.2.trans h1.store.2⟩
  shown h := h2.shown (h1.shown h)
  held h := h2.held (h1.held h)

/-- Where the cycle of a head need not be in its class, it may as well be. -/
theorem Keeps.weaken {e e' : Option HeadId} {s t : State} (h : Keeps e e' s t) : Keeps none e' s t :=
  ⟨h.closed, h.store, h.shown, fun hs => h.held hs.weaken⟩

/-- A change of anything that the invariants do not speak of. -/
theorem Keeps.of_essence {e : Option HeadId} {s t : State} (h : t.essence = s.essence) :
    Keeps e e s t := by
  simp only [State.essence, Essence.mk.injEq, PerHead.mk.injEq] at h
  obtain ⟨hopen, hparams, hfabric, hpress, hpass, hstore, hon, ⟨h0, h1⟩, hheads, hthermal⟩ := h
  refine ⟨fun hc => ⟨hopen.trans hc, hparams, hfabric, hpress, hpass⟩, ⟨hstore, hon⟩, ?_, ?_⟩
  · simp only [MailboxesShown, h0, h1, hheads]; exact id
  · exact fun hs => hs.congr hfabric hpass (by rw [hpress]) hheads hthermal

theorem Keeps.refl {e : Option HeadId} {s : State} : Keeps e e s s := .of_essence rfl

/-- Work on one head's record and setpoint, its mailbox kept. -/
theorem Keeps.of_head {e e' : Option HeadId} {s t : State} {h : HeadId} {d : Head} {th : Thermal}
    (hess : t.essence =
      { s.essence with heads := s.heads.set h d, thermal := s.thermal.set h th })
    (hmail : d.mailbox = (s.heads.get h).mailbox)
    (hwindow : WindowsHeld s → s.inWindow h → (e ≠ some h → s.cycleHeld h) → s.present h = true →
      (s.pass.get d.cls).defSetpoint ≤ th.setpoint ∧ th.setpoint ≤ (s.pass.get d.cls).ceiling)
    (hcycle : (e ≠ some h → s.cycleHeld h) → e' ≠ some h → d.state = .closed →
      th.cycle.cls = d.cls)
    (hothers : ∀ x, x ≠ h → e' ≠ some x → e ≠ some x) : Keeps e e' s t := by
  simp only [State.essence, Essence.mk.injEq, PerHead.mk.injEq] at hess
  obtain ⟨hopen, hparams, hfabric, hpress, hpass, hstore, hon, ⟨h0, h1⟩, hheads, hthermal⟩ := hess
  have hp (x : HeadId) : t.present x = s.present x := by cases x <;> simp [State.present, hpress]
  refine ⟨fun hc => ⟨hopen.trans hc, hparams, hfabric, hpress, hpass⟩, ⟨hstore, hon⟩, ?_, ?_⟩
  · simp only [MailboxesShown, h0, h1, hheads]
    cases h <;> simp only [PerHead.set, PerHead.get] at hmail ⊢ <;> rw [hmail] <;> exact id
  · rintro ⟨hw, hwin, hcyc⟩
    refine ⟨by rwa [WindowsHeld, hfabric, hpass], fun x => ?_, fun x hx => ?_⟩
    · by_cases hxh : x = h
      · subst hxh
        simpa only [State.inWindow, hp, hpass, hheads, hthermal, PerHead.get_set_self] using
          hwindow hw (hwin x) (hcyc x)
      · simpa only [State.inWindow, hp, hpass, hheads, hthermal, PerHead.get_set_ne _ _ hxh] using
          hwin x
    · by_cases hxh : x = h
      · subst hxh
        simpa only [State.cycleHeld, hheads, hthermal, PerHead.get_set_self] using hcycle (hcyc x) hx
      · simpa only [State.cycleHeld, hheads, hthermal, PerHead.get_set_ne _ _ hxh] using
          hcyc x (hothers x hxh hx)

section
variable {e : Option HeadId} {s : State} {h : HeadId} {f : Head → Head}

/-- A head's record changes without a change of its class, its state or its mailbox. -/
theorem Keeps.modifyHead (hmail : ∀ d, (f d).mailbox = d.mailbox) (hcls : ∀ d, (f d).cls = d.cls)
    (hstate : ∀ d, (f d).state = d.state) : Keeps e e s (s.modifyHead h f) := by
  refine .of_head (h := h) (d := f (s.heads.get h)) (th := s.thermal.get h) ?_ (hmail _) ?_ ?_
    fun x _ hx => hx
  · cases h <;> rfl
  · rw [hcls]; exact fun _ hwin _ => hwin
  · rw [hcls, hstate]; exact fun hcyc he => hcyc he

/-- A head goes to a state other than CLOSED, its class and its mailbox kept. -/
theorem Keeps.leaveClosed (hmail : ∀ d, (f d).mailbox = d.mailbox) (hcls : ∀ d, (f d).cls = d.cls)
    (hstate : ∀ d, (f d).state ≠ .closed) : Keeps (some h) none s (s.modifyHead h f) := by
  refine .of_head (h := h) (d := f (s.heads.get h)) (th := s.thermal.get h) ?_ (hmail _) ?_ ?_
    fun x hx _ => ?_
  · cases h <;> rfl
  · rw [hcls]; exact fun _ hwin _ => hwin
  · exact fun _ _ hclosed => absurd hclosed (hstate _)
  · simpa using Ne.symm hx

theorem Keeps.endCycle : Keeps none (some h) s (s.endCycle h) := by
  refine .of_head (h := h) (d := s.heads.get h)
    (th := { s.thermal.get h with cycle := Cycle.idle }) ?_ rfl ?_ ?_ fun x _ _ => nofun
  · cases h <;> rfl
  · exact fun _ hwin _ => hwin
  · exact fun _ hne => absurd rfl hne

theorem Keeps.endCycle_of_not_closed (hstate : (s.heads.get h).state ≠ .closed) :
    Keeps none none s (s.endCycle h) := by
  refine .of_head (h := h) (d := s.heads.get h)
    (th := { s.thermal.get h with cycle := Cycle.idle }) ?_ rfl ?_ ?_ fun x _ _ => nofun
  · cases h <;> rfl
  · exact fun _ hwin _ => hwin
  · exact fun _ _ hclosed => absurd hclosed hstate

/-! ## Mailboxes -/

theorem Keeps.setMailbox {m : Option Assignment} : Keeps e e s (s.setMailbox h m) := by
  obtain ⟨n, hn, hset⟩ := s.setMailbox_cases h m
  have hheads : (s.setMailbox h m).heads = s.heads.modify h fun d => { d with mailbox := m } := by
    rw [hset]; rfl
  refine ⟨fun hc => ?_, ?_, ?_, ?_⟩
  · rw [hset]; exact ⟨hc, rfl, rfl, rfl, rfl⟩
  · rw [hset]; exact ⟨rfl, rfl⟩
  · rintro ⟨h0, h1⟩
    rw [hset]
    cases h
    · exact ⟨by simpa [State.notice, NoticeKind.port, NoticeKind.index, PerHead.modify, PerHead.get,
        PerHead.set] using hn, by simpa [State.notice, NoticeKind.port, NoticeKind.index,
        PerHead.modify, PerHead.get, PerHead.set] using h1⟩
    · exact ⟨by simpa [State.notice, NoticeKind.port, NoticeKind.index, PerHead.modify, PerHead.get,
        PerHead.set] using h0, by simpa [State.notice, NoticeKind.port, NoticeKind.index,
        PerHead.modify, PerHead.get, PerHead.set] using hn⟩
  · rintro ⟨hw, hwin, hcyc⟩
    have hpass : (s.setMailbox h m).pass = s.pass := by rw [hset]; rfl
    have hthermal : (s.setMailbox h m).thermal = s.thermal := by rw [hset]; rfl
    have hp (x : HeadId) : (s.setMailbox h m).present x = s.present x := by
      rw [hset]; cases x <;> rfl
    have hcls (x : HeadId) : ((s.setMailbox h m).heads.get x).cls = (s.heads.get x).cls := by
      rw [hheads]; cases h <;> cases x <;> rfl
    have hstate (x : HeadId) : ((s.setMailbox h m).heads.get x).state = (s.heads.get x).state := by
      rw [hheads]; cases h <;> cases x <;> rfl
    refine ⟨by rw [hset]; exact hw, fun x => ?_, fun x hx => ?_⟩
    · simpa only [State.inWindow, hp, hpass, hthermal, hcls] using hwin x
    · simpa only [State.cycleHeld, hthermal, hcls, hstate] using hcyc x hx

theorem Keeps.post {a : Assignment} : Keeps e e s (s.post h a) := .setMailbox

end

/-! ## Grants and parking -/

section
variable {e : Option HeadId} {s : State} {h : HeadId}

/-- What a head's cycle and setpoint hold changes without a change of the setpoint or of the cycle's
class. -/
theorem Keeps.modifyThermal {f : Thermal → Thermal} (hsp : ∀ th, (f th).setpoint = th.setpoint)
    (hcls : ∀ th, (f th).cycle.cls = th.cycle.cls) : Keeps e e s (s.modifyThermal h f) := by
  refine .of_head (h := h) (d := s.heads.get h) (th := f (s.thermal.get h)) ?_ rfl ?_ ?_
    fun _ _ hx => hx
  · cases h <;> rfl
  · rw [hsp]; exact fun _ hwin _ => hwin
  · rw [hcls]; exact fun hcyc he => hcyc he

/-- A head takes a class and a state other than CLOSED; its setpoint stands, or is the default of the
class that changed. -/
theorem Keeps.retask {f : Head → Head} {sp : Nat}
    (hmail : ∀ d, (f d).mailbox = d.mailbox) (hstate : ∀ d, (f d).state ≠ .closed)
    (hsp : sp = if (f (s.heads.get h)).cls = (s.heads.get h).cls then (s.thermal.get h).setpoint
                else (s.pass.get (f (s.heads.get h)).cls).defSetpoint) :
    Keeps none none s ((s.modifyHead h f).modifyThermal h fun t => { t with setpoint := sp }) := by
  refine .of_head (h := h) (d := f (s.heads.get h))
    (th := { s.thermal.get h with setpoint := sp }) ?_ (hmail _) (fun hw hwin _ hp => ?_)
    (fun _ _ hc => absurd hc (hstate _)) fun _ _ _ => nofun
  · cases h <;> rfl
  · have hrow : (s.pass.get (f (s.heads.get h)).cls).windowed := by
      obtain ⟨-, hdry, hcure⟩ := hw
      cases (f (s.heads.get h)).cls
      · exact hdry
      · exact hcure
    subst hsp
    split
    · rename_i hsame
      rw [hsame]; exact hwin hp
    · exact ⟨Nat.le_refl _, hrow.1⟩

theorem Keeps.grant {l : RackList} {p : PlatenIx} {rest : List PlatenIx} :
    Keeps none none s (s.grant l p rest h) := by
  have hess : (((s.setList l rest).movePointers l).setLocation p (.head h)).essence = s.essence := by
    simp
  refine (Keeps.of_essence hess).trans (.trans ?_ .post)
  refine .retask (fun _ => rfl) (by simp) ?_
  have hheads := congrArg Essence.heads hess
  have hthermal := congrArg Essence.thermal hess
  have hpass := congrArg Essence.pass hess
  simp only [State.essence] at hheads hthermal hpass
  rw [hheads, hthermal, hpass]
  by_cases hc : (s.heads.get h).cls = listClass l
  · simp [hc]
  · simp [hc, Ne.symm hc]

theorem Keeps.grantOnce : Keeps none none s s.grantOnce := by
  rcases s.grantOnce_cases with he | ⟨l, p, rest, h, -, -, -, he⟩ <;> rw [he]
  · exact .refl
  · exact .grant

theorem Keeps.grantEval : Keeps none none s s.grantEval := Keeps.grantOnce.trans .grantOnce

theorem Keeps.startPark : Keeps e e s (s.startPark h) :=
  .modifyHead (fun _ => rfl) (fun _ => rfl) fun _ => rfl

theorem Keeps.parkNow : Keeps none none s (s.parkNow h) := by
  refine .trans ?_ .post
  exact .retask (fun _ => rfl) (by simp) rfl

theorem Keeps.parkIfDue : Keeps none none s (s.parkIfDue h) := by
  rcases s.parkIfDue_cases h with he | ⟨-, -, he⟩ <;> rw [he]
  · exact .refl
  · exact .parkNow

theorem Keeps.settle : Keeps none none s s.settle := (Keeps.grantEval.trans .parkIfDue).trans .parkIfDue

/-! ## A head and its platen -/

theorem Keeps.freeHead : Keeps (some h) none s (s.freeHead h) := by
  rcases s.freeHead_cases h with ⟨-, he⟩ | ⟨-, he⟩ <;> rw [he]
  · exact .leaveClosed (fun _ => rfl) (fun _ => rfl) (by simp)
  · refine .trans ?_ .startPark
    exact .leaveClosed (fun _ => rfl) (fun _ => rfl) (by simp)

theorem Keeps.startRelease {o : PressOutcome} : Keeps (some h) none s (s.startRelease h o) := by
  refine .trans ?_ .post
  exact .leaveClosed (fun _ => rfl) (fun _ => rfl) (by simp)

theorem Keeps.sendPlaten {o : PressOutcome} : Keeps e e s (s.sendPlaten h o) :=
  .of_essence (s.sendPlaten_essence h o)

theorem Keeps.voidAtPress {p : PlatenIx} : Keeps none none s (s.voidAtPress p) := by
  unfold State.voidAtPress
  split
  · exact .of_essence rfl
  · split
    · exact .trans (.trans .sendPlaten .post) Keeps.freeHead.weaken
    · exact Keeps.startRelease.weaken
    · exact .trans .endCycle .startRelease
    · exact .modifyHead (fun _ => rfl) (fun _ => rfl) fun _ => rfl
    · exact .refl
  · exact .refl

/-! ## Samples and openings -/

theorem Keeps.countSample {n : Nat} : Keeps e e s (s.countSample h n) := by
  refine .trans ?_ (.of_essence (State.modifyTicket_essence _ _ _))
  refine .trans ?_ (.modifyThermal (fun _ => rfl) fun _ => rfl)
  exact .modifyHead (fun _ => rfl) (fun _ => rfl) fun _ => rfl

/-- A value clamped into a range lies in it. -/
theorem clamp_mem {lo hi v : Nat} (h : lo ≤ hi) : lo ≤ clamp lo hi v ∧ clamp lo hi v ≤ hi := by
  unfold clamp
  split
  · exact ⟨Nat.le_refl _, h⟩
  · split
    · exact ⟨h, Nat.le_refl _⟩
    · omega

theorem WindowsHeld.windowed {s : State} (hw : WindowsHeld s) (c : PassClass) :
    (s.pass.get c).windowed := by
  obtain ⟨-, hdry, hcure⟩ := hw
  cases c
  · exact hdry
  · exact hcure

end

end Sys2Proof.Machine
end

section
/-! PROOF. The commands and expiries of the press, LINE_CLEAR and CONFIG meet the relation of every
step. -/

namespace Sys2Proof.Machine

open Sys2Proof

/-! ## Samples -/

section
variable {e : Option HeadId} {s : State} {h : HeadId}

/-- The setpoint of a CLOSED head steps within the window of the head's class, which is the cycle's
(R160). -/
theorem Keeps.stepSetpoint {n : Nat} (hclosed : (s.heads.get h).state = .closed) :
    Keeps none none s (s.stepSetpoint h n) := by
  have stepped {sp : Nat} {dir : MoveDir} {step : Nat}
      (hsp : WindowsHeld s → (s.pass.get (s.thermal.get h).cycle.cls).defSetpoint ≤ sp ∧
        sp ≤ (s.pass.get (s.thermal.get h).cycle.cls).ceiling) :
      Keeps none none s (s.modifyThermal h fun th =>
        { th with setpoint := sp, cycle := { th.cycle with step := step, prevDir := dir } }) := by
    refine .of_head (h := h) (d := s.heads.get h) (th := { s.thermal.get h with
      setpoint := sp, cycle := { (s.thermal.get h).cycle with step := step, prevDir := dir } })
      ?_ rfl (fun hw _ hcyc _ => ?_) (fun hcyc _ hc => hcyc nofun hc) fun _ _ _ => nofun
    · cases h <;> rfl
    · rw [← hcyc nofun hclosed]; exact hsp hw
  unfold State.stepSetpoint
  dsimp only
  split
  · exact .modifyThermal (fun _ => rfl) fun _ => rfl
  · have hmoved := stepped (dir := moveDirection (s.pass.get (s.thermal.get h).cycle.cls) n)
      (step := moveStep (s.pass.get (s.thermal.get h).cycle.cls) (s.thermal.get h).cycle
        (moveDirection (s.pass.get (s.thermal.get h).cycle.cls) n))
      (sp := movedSetpoint (s.pass.get (s.thermal.get h).cycle.cls) (s.thermal.get h).setpoint
        (moveStep (s.pass.get (s.thermal.get h).cycle.cls) (s.thermal.get h).cycle
          (moveDirection (s.pass.get (s.thermal.get h).cycle.cls) n))
        (moveDirection (s.pass.get (s.thermal.get h).cycle.cls) n))
      fun hw => clamp_mem (hw.windowed _).1
    split
    · exact hmoved
    · exact hmoved.trans .post

theorem Keeps.endAtSample {o : PressOutcome} : Keeps none none s (s.endAtSample h o) :=
  .trans .endCycle .startRelease

theorem Keeps.judgeSample {n : Nat} (hclosed : (s.heads.get h).state = .closed) :
    Keeps none none s (s.judgeSample h n).1 := by
  generalize hscorched : (if decide ((s.pass.get (s.thermal.get h).cycle.cls).scorchTemp ≤ n) then
    s.modifyTicket (s.thermal.get h).cycle.platen fun k => { k with scorches := k.scorches + 1 }
    else s) = s1
  have hess : s1.essence = s.essence := by
    rw [← hscorched]; split <;> simp
  have hclosed1 : (s1.heads.get h).state = .closed := by
    rw [show s1.heads = s.heads from congrArg Essence.heads hess]; exact hclosed
  refine (Keeps.of_essence hess).trans ?_
  unfold State.judgeSample
  dsimp only
  rw [hscorched]
  split
  · exact .stepSetpoint hclosed1
  · split
    · exact .trans (.of_essence (s1.spoil_essence _ _)) .endAtSample
    · split
      · exact .trans (.of_essence (s1.modifyTicket_essence _ _)) .endAtSample
      · split
        · exact .trans (.of_essence (s1.judgeShort_essence _ _)) .endAtSample
        · exact .stepSetpoint hclosed1

theorem Keeps.judgeOpening : Keeps none (some h) s (s.judgeOpening h).1 := by
  unfold State.judgeOpening
  dsimp only
  split
  · exact .trans (.of_essence (s.modifyTicket_essence _ _)) .endCycle
  · exact .trans (.of_essence (s.judgeShort_essence _ _)) .endCycle

/-! ## The press cycle and its timeouts -/

theorem Keeps.openHead {o : PressOutcome} : Keeps (some h) none s (s.openHead h o) :=
  .trans (.trans (.trans .setMailbox .sendPlaten) .freeHead) .settle

theorem Keeps.closeHead {p : PlatenIx} : Keeps none none s (s.closeHead h p) := by
  refine .of_head (h := h)
    (d := { s.heads.get h with
      state := .closed, timer := some ⟨.sample, s.press.sampleTimeout * ticksPer100ms⟩ })
    (th := { s.thermal.get h with
      cycle := { active := true, platen := p, cls := (s.heads.get h).cls, samples := 0,
                 prevDir := .none, step := (s.pass.get (s.heads.get h).cls).baseStep } })
    ?_ rfl (fun _ hwin _ => hwin) (fun _ _ _ => rfl) fun _ _ _ => nofun
  cases h <;> rfl

theorem Keeps.decline {on : Bool} : Keeps none none s (s.decline h on) := by
  have declining (b : Bool) : Keeps none none s (s.modifyHead h fun d =>
      { d with state := .declining, declinePending := b, timer := none }) := by
    refine Keeps.weaken (e := some h) ?_
    exact .leaveClosed (fun _ => rfl) (fun _ => rfl) (by simp)
  unfold State.decline
  dsimp only
  split
  · split
    · exact (declining false).trans .setMailbox
    · exact (declining false).trans .setMailbox
    · exact declining false
  · split
    · exact (declining false).trans .setMailbox
    · exact (declining false).trans .setMailbox
    · exact declining false
  · exact .refl
  · exact .modifyHead (fun _ => rfl) (fun _ => rfl) fun _ => rfl
  · refine .trans (.trans ?_ .startPark) .settle
    refine Keeps.weaken (e := some h) ?_
    exact .leaveClosed (fun _ => rfl) (fun _ => rfl) (by simp)
  · exact .modifyHead (fun _ => rfl) (fun _ => rfl) fun _ => rfl

theorem Keeps.afterTimeout {k : TimerKind} {p : Nat} :
    Keeps (some h) none s (s.afterTimeout h k p) := by
  unfold State.afterTimeout
  split
  · refine .trans ?_ (.of_essence (State.raise_essence (by simp)))
    exact .leaveClosed (fun _ => rfl) (fun _ => rfl) (by simp)
  · exact .freeHead

theorem Keeps.timeoutPlaten : Keeps e e s (s.timeoutPlaten h) := by
  refine .of_essence ?_
  unfold State.timeoutPlaten
  split
  · rfl
  · split
    · simp
    · split
      · dsimp only
        split <;> simp
      · simp

theorem Keeps.pressTimeout {k : TimerKind} : Keeps none none s (s.pressTimeout h k) := by
  have ended : Keeps none (some h) s
      (if (s.heads.get h).state = .closed then s.endCycle h else s) := by
    split
    · exact .endCycle
    · exact Keeps.refl.weaken
  refine .trans ?_ (.trans .afterTimeout .settle)
  refine .trans ?_ (.modifyHead (fun _ => rfl) (fun _ => rfl) fun _ => rfl)
  exact .trans (.trans ended .timeoutPlaten) .setMailbox

theorem Keeps.releaseTimeout : Keeps none none s (s.releaseTimeout h) := by
  have marked : Keeps none none s
      ((s.sendPlaten h (s.heads.get h).outcome).modifyHead h fun d => { d with late := true }) := by
    refine .trans ?_ (.modifyHead (fun _ => rfl) (fun _ => rfl) fun _ => rfl)
    exact .sendPlaten
  unfold State.releaseTimeout
  dsimp only
  refine .trans (.trans marked ?_) (.trans Keeps.afterTimeout.weaken .settle)
  split
  · exact .setMailbox
  · exact .refl

theorem Keeps.parkTimeout : Keeps none none s (s.parkTimeout h) := .trans .parkNow .grantEval

theorem Keeps.expire {k : TimerKind} : Keeps none none s (s.expire h k) := by
  cases k with
  | close => exact .pressTimeout
  | sample => exact .pressTimeout
  | release => exact .releaseTimeout
  | park => exact .parkTimeout

theorem Keeps.expireIfDue : Keeps none none s (s.expireIfDue h) := by
  unfold State.expireIfDue
  split
  · split
    · exact .expire
    · exact .refl
  · exact .refl

theorem Keeps.tick : Keeps none none s s.tick := by
  have counted : Keeps none none s ((s.modifyHead .h0 Head.count).modifyHead .h1 Head.count) := by
    refine .trans ?_ (.modifyHead (fun _ => rfl) (fun _ => rfl) fun _ => rfl)
    exact .modifyHead (fun _ => rfl) (fun _ => rfl) fun _ => rfl
  exact .trans (.trans counted .expireIfDue) .expireIfDue

/-! ## CANCEL_LINE and LINE_CLEAR -/

theorem Keeps.voidEffect {i : LineIx} {p : PlatenIx} : Keeps none none s (State.voidEffect i s p) := by
  unfold State.voidEffect
  split
  · exact .refl
  · exact .refl
  · exact .of_essence (State.raise_essence (by simp))
  · exact .of_essence (State.raise_essence (by simp))
  · exact .of_essence (State.raise_essence (by simp))
  · exact .of_essence (State.raise_essence (by simp))
  · exact .voidAtPress
  · exact .voidAtPress

theorem Keeps.voidEffects {i : LineIx} (ps : List PlatenIx) :
    Keeps none none s (ps.foldl (State.voidEffect i) s) := by
  induction ps generalizing s with
  | nil => exact .refl
  | cons p ps ih => exact .trans .voidEffect ih

theorem Keeps.cancelLine {i : LineIx} : Keeps none none s (s.cancelLine i) := by
  unfold State.cancelLine
  dsimp only
  generalize (if (s.lines.get i).bound = 0 then [] else s.platensOfLine i) = ps
  have voided : Keeps none none s (ps.foldl (State.voidEffect i)
      (ps.foldl State.voidTicket (s.modifyLine i fun l => { l with state := .cancelled }))) :=
    .trans (.of_essence (by simp)) (.voidEffects ps)
  split
  · exact voided
  · exact voided.trans .settle

/-- At LINE_CLEAR a head at work lets its platen go before its cycle is ended. -/
theorem Keeps.clearHead : Keeps none none s (s.clearHead h) := by
  have marked : Keeps none none s (s.modifyHead h fun d => { d with late := false }) :=
    .modifyHead (fun _ => rfl) (fun _ => rfl) fun _ => rfl
  have parked {u : State} {x : HeadId} (hfree : (u.heads.get x).state ≠ .closed) :
      ((u.parkIfDue x).heads.get x).state ≠ .closed := by
    rcases u.parkIfDue_cases x with he | ⟨-, -, he⟩
    · rwa [he]
    · rw [he, State.parkNow, State.post]
      obtain ⟨n, -, hset⟩ := State.setMailbox_cases _ x (mergePost _ _)
      rw [hset]
      simp
  have freed (u : State) : ((u.freeHead h).heads.get h).state ≠ .closed := by
    rcases u.freeHead_cases h with ⟨-, he⟩ | ⟨-, he⟩ <;> rw [he] <;> simp [State.startPark]
  unfold State.clearHead
  dsimp only
  split
  case h_4 hassigned hclosed hreleasing =>
    exact marked.trans (.endCycle_of_not_closed (by simpa using hclosed))
  all_goals
    exact .trans (.trans (.trans (.trans marked .post) Keeps.freeHead.weaken) .parkIfDue)
      (.endCycle_of_not_closed (parked (freed _)))

theorem Keeps.lineClear : Keeps none none s s.lineClear := by
  have emptied : ((s.clearBook.clearCounts.clearPlatens.clearBed .a).clearBed .b |>.idleFrom s).essence
      = s.essence := by
    have hbed (u : State) (bed : Bed) : (u.clearBed bed).essence = u.essence := by
      simp [State.clearBed]
    rw [State.idleFrom_essence, hbed, hbed]; rfl
  have raised (u : State) : u.raiseCleared.essence = u.essence := by
    simp [State.raiseCleared]
  have pressed (u : State) : Keeps none none u u.clearPress :=
    .trans (.trans (t := { u with lists := ⟨[], [], [], []⟩ }) (.of_essence rfl) .clearHead) .clearHead
  exact .trans (.trans (.of_essence emptied) (pressed _)) (.of_essence (raised _))

end

end Sys2Proof.Machine
end

section
/-! PROOF. CONFIG keeps the windows and re-clamps the setpoints (R97, R149, R150), every command but a
full reset and a block of a load run meets the relation of every step, and the four invariants. -/

namespace Sys2Proof.Machine

open Sys2Proof

/-! ## Rows of the two class tables -/

theorem FabricRow.put_adopted_ordered {v : FabricRow} (q : FabricParam) (n : Nat)
    (h : v.dmin ≤ v.dmax) : (v.put q (v.adopted q n)).dmin ≤ (v.put q (v.adopted q n)).dmax := by
  cases q <;> simp only [FabricRow.put, FabricRow.adopted] <;> omega

theorem PassRow.put_adopted_windowed {v : PassRow} (q : PassParam) (n : Nat) (h : v.windowed) :
    (v.put q (v.adopted q n)).windowed := by
  obtain ⟨hset, hscorch⟩ := h
  cases q <;> simp only [PassRow.put, PassRow.adopted] <;> constructor <;> dsimp only <;> omega

/-- A parameter other than the two of the window leaves the window; so does a value that stands. -/
theorem PassRow.put_window {v : PassRow} {q : PassParam} {x : Nat}
    (h : ¬ ((q = .defSetpoint ∨ q = .ceiling) ∧ x ≠ v.value q)) :
    (v.put q x).defSetpoint = v.defSetpoint ∧ (v.put q x).ceiling = v.ceiling := by
  cases q <;> simp_all [PassRow.put, PassRow.value]

/-! ## The re-clamp of R150 -/

section
variable {s : State} {c : PassClass} {h x : HeadId}

/-- The re-clamp of a head: its setpoint moves into its class's range where it is present and of the
class, and everything else that windows and cycles are judged by stands. -/
theorem State.reclampHead_fields (s : State) (c : PassClass) (h : HeadId) :
    ((s.reclampHead c h).commissioningOpen = s.commissioningOpen ∧
      (s.reclampHead c h).pass = s.pass ∧ (s.reclampHead c h).fabric = s.fabric ∧
      (s.reclampHead c h).press = s.press) ∧
    (∀ x, ((s.reclampHead c h).heads.get x).cls = (s.heads.get x).cls ∧
      ((s.reclampHead c h).heads.get x).state = (s.heads.get x).state ∧
      ((s.reclampHead c h).thermal.get x).cycle = (s.thermal.get x).cycle ∧
      ((s.reclampHead c h).thermal.get x).setpoint =
        if x = h ∧ s.present h = true ∧ (s.heads.get h).cls = c then
          clamp (s.pass.get c).defSetpoint (s.pass.get c).ceiling (s.thermal.get h).setpoint
        else (s.thermal.get x).setpoint) := by
  unfold State.reclampHead
  dsimp only
  split
  case isTrue hdue =>
    obtain ⟨n, -, hset⟩ := State.setMailbox_cases (s.modifyThermal h _) h (mergePost _ _)
    rw [State.post, hset]
    refine ⟨⟨rfl, rfl, rfl, rfl⟩, fun x => ?_⟩
    obtain ⟨hp, hc, -⟩ := hdue
    cases h <;> cases x <;>
      exact ⟨rfl, rfl, rfl, by simp [State.modifyThermal, PerHead.modify, PerHead.get, PerHead.set,
        hp, ← hc]⟩
  case isFalse hnot =>
    refine ⟨⟨rfl, rfl, rfl, rfl⟩, fun x => ⟨rfl, rfl, rfl, ?_⟩⟩
    split
    · rename_i hx
      obtain ⟨rfl, hp, hc⟩ := hx
      by_contra hne
      exact hnot ⟨hp, hc, Ne.symm hne⟩
    · rfl

theorem State.reclampHead_present : (s.reclampHead c h).present x = s.present x := by
  obtain ⟨⟨-, -, -, hpress⟩, -⟩ := s.reclampHead_fields c h
  cases x <;> simp only [State.present, hpress]

theorem State.reclampHead_inWindow (hrow : (s.pass.get c).defSetpoint ≤ (s.pass.get c).ceiling)
    (hold : (s.heads.get h).cls ≠ c → s.inWindow h) : (s.reclampHead c h).inWindow h := by
  obtain ⟨⟨-, hpass, -, -⟩, hhead⟩ := s.reclampHead_fields c h
  obtain ⟨hcls, -, -, hsp⟩ := hhead h
  intro hp
  rw [State.reclampHead_present] at hp
  rw [hpass, hcls, hsp]
  by_cases hc : (s.heads.get h).cls = c
  · simpa [hp, hc] using clamp_mem hrow
  · simpa [hc] using hold hc hp

theorem State.reclampHead_inWindow_of_ne (hx : x ≠ h) :
    (s.reclampHead c h).inWindow x ↔ s.inWindow x := by
  obtain ⟨⟨-, hpass, -, -⟩, hhead⟩ := s.reclampHead_fields c h
  obtain ⟨hcls, -, -, hsp⟩ := hhead x
  simp only [State.inWindow, State.reclampHead_present, hpass, hcls, hsp, hx, false_and, if_false]

theorem State.reclampHead_cycleHeld : (s.reclampHead c h).cycleHeld x ↔ s.cycleHeld x := by
  obtain ⟨-, hhead⟩ := s.reclampHead_fields c h
  obtain ⟨hcls, hstate, hcyc, -⟩ := hhead x
  simp only [State.cycleHeld, hstate, hcyc, hcls]

theorem MailboxesShown.reclampHead (hs : MailboxesShown s) :
    MailboxesShown (s.reclampHead c h) := by
  unfold State.reclampHead
  dsimp only
  split
  · exact (Keeps.post (e := none)).shown hs
  · exact hs

theorem State.reclampHead_stored :
    (s.reclampHead c h).store = s.store ∧ (s.reclampHead c h).powerOns = s.powerOns := by
  unfold State.reclampHead
  dsimp only
  split
  · exact (Keeps.post (e := none)).store
  · exact ⟨rfl, rfl⟩

end

/-! ## Single and wide writes -/

section
variable {s : State}

/-- A write of a pass class column by the owner's rule keeps every window and every setpoint. -/
theorem HeldSave.writePass {c : PassClass} {q : PassParam} {n : Nat} (hs : HeldSave none s) :
    HeldSave none (s.writePass c q ((s.pass.get c).adopted q n)) := by
  obtain ⟨hw, hwin, hcyc⟩ := hs
  generalize hput : (s.pass.get c).put q ((s.pass.get c).adopted q n) = row
  have hrow : row.windowed := hput ▸ PassRow.put_adopted_windowed q n (hw.windowed c)
  set s1 : State := { s with pass := s.pass.modify c fun v => v.put q ((s.pass.get c).adopted q n) }
    with hs1
  have hpass (k : PassClass) : s1.pass.get k = if k = c then row else s.pass.get k := by
    by_cases hk : k = c
    · subst hk; simp [hs1, hput]
    · simp [hs1, hk]
  have hw1 : WindowsHeld s1 := by
    obtain ⟨hfabric, hdry, hcure⟩ := hw
    refine ⟨hfabric, ?_, ?_⟩
    · have := hpass .dry
      simp only [PerClass.get] at this
      rw [this]; split
      · exact hrow
      · exact hdry
    · have := hpass .cure
      simp only [PerClass.get] at this
      rw [this]; split
      · exact hrow
      · exact hcure
  have hother (x : HeadId) (hx : (s1.heads.get x).cls ≠ c) : s1.inWindow x := by
    intro hp
    rw [hpass, if_neg hx]
    exact hwin x hp
  unfold State.writePass
  dsimp only
  rw [← hs1]
  split
  · have hset : (s1.pass.get c).defSetpoint ≤ (s1.pass.get c).ceiling := (hw1.windowed c).1
    obtain ⟨⟨-, hpass0, hfabric0, -⟩, hhead0⟩ := s1.reclampHead_fields c .h0
    obtain ⟨⟨-, hpass1, hfabric1, -⟩, -⟩ := (s1.reclampHead c .h0).reclampHead_fields c .h1
    refine ⟨?_, fun x => ?_, fun x _ => ?_⟩
    · rw [WindowsHeld, hfabric1, hfabric0, hpass1, hpass0]; exact hw1
    · cases x
      · rw [State.reclampHead_inWindow_of_ne (x := .h0) (h := .h1) nofun]
        exact State.reclampHead_inWindow hset (hother .h0)
      · refine State.reclampHead_inWindow (by rwa [hpass0]) fun hne => ?_
        rw [State.reclampHead_inWindow_of_ne (x := .h1) (h := .h0) nofun]
        exact hother .h1 (by rwa [(hhead0 .h1).1] at hne)
    · rw [State.reclampHead_cycleHeld, State.reclampHead_cycleHeld]; exact hcyc x nofun
  · rename_i hsame
    refine ⟨hw1, fun x => ?_, hcyc⟩
    by_cases hx : (s1.heads.get x).cls = c
    · obtain ⟨hdef, hceil⟩ := PassRow.put_window hsame
      intro hp
      have hin := hwin x hp
      rw [show (s.heads.get x).cls = c from hx, ← hdef, ← hceil, hput] at hin
      rw [hpass, if_pos hx]
      exact hin
    · exact hother x hx

theorem MailboxesShown.writePass {c : PassClass} {q : PassParam} {n : Nat} (hs : MailboxesShown s) :
    MailboxesShown (s.writePass c q n) := by
  unfold State.writePass
  dsimp only
  have hs1 : MailboxesShown { s with pass := s.pass.modify c fun v => v.put q n } := hs
  split
  · exact hs1.reclampHead.reclampHead
  · exact hs1

theorem State.writePass_stored {c : PassClass} {q : PassParam} {n : Nat} :
    (s.writePass c q n).store = s.store ∧ (s.writePass c q n).powerOns = s.powerOns := by
  unfold State.writePass
  dsimp only
  split
  · exact ⟨State.reclampHead_stored.1.trans State.reclampHead_stored.1,
      State.reclampHead_stored.2.trans State.reclampHead_stored.2⟩
  · exact ⟨rfl, rfl⟩

/-- A CONFIG write's effect on the store, the mailboxes and the setpoints. -/
structure Adopts (s t : State) : Prop where
  store : t.store = s.store ∧ t.powerOns = s.powerOns
  shown : MailboxesShown s → MailboxesShown t
  held  : HeldSave none s → HeldSave none t

theorem Adopts.refl : Adopts s s := ⟨⟨rfl, rfl⟩, id, id⟩

theorem Adopts.trans {t u : State} (h1 : Adopts s t) (h2 : Adopts t u) : Adopts s u :=
  ⟨⟨h2.store.1.trans h1.store.1, h2.store.2.trans h1.store.2⟩, h2.shown ∘ h1.shown,
    h2.held ∘ h1.held⟩

theorem Keeps.adopts {t : State} (h : Keeps none none s t) : Adopts s t := ⟨h.store, h.shown, h.held⟩

theorem Adopts.keeps {t : State} (hopen : s.commissioningOpen ≠ false) (h : Adopts s t) :
    Keeps none none s t :=
  ⟨fun hc => absurd hc hopen, h.store, h.shown, h.held⟩

theorem Adopts.writeRow {q : RowParam} {n r : Nat} : Adopts s (s.writeRow q n r) := by
  cases q with
  | fabric k =>
    refine ⟨⟨rfl, rfl⟩, id, fun ⟨⟨hfabric, hpass⟩, hwin, hcyc⟩ => ⟨⟨fun i => ?_, hpass⟩, hwin, hcyc⟩⟩
    by_cases hi : i = fabricOf r
    · subst hi
      simpa [State.writeRow, State.rowAdopted] using FabricRow.put_adopted_ordered k n (hfabric _)
    · simpa [State.writeRow, hi] using hfabric i
  | pass k => exact ⟨State.writePass_stored, MailboxesShown.writePass, HeldSave.writePass⟩

theorem Adopts.writeRows {q : RowParam} {n : Nat} (rs : List Nat) : Adopts s (s.writeRows q n rs) := by
  induction rs generalizing s with
  | nil => exact .refl
  | cons r rs ih => exact .trans .writeRow ih

/-! ## The tables without rows -/

theorem Adopts.writePlatenCount {n : Nat} {t : State} (h : s.writePlatenCount n = some t) :
    Adopts s t := by
  unfold State.writePlatenCount at h
  split at h
  · cases h
  · cases h
    exact ⟨⟨rfl, rfl⟩, id, fun hs => hs.congr rfl rfl rfl rfl rfl⟩

/-- Head 1 not present has no window to hold, and it is FREE. -/
theorem Adopts.removeHead : Adopts s s.removeHead := by
  refine .trans (t := ({ s with press := { s.press with headsPresent := 1 } } : State).modifyHead .h1
    fun d => { d with state := .free, timer := none, declinePending := false, late := false })
    ⟨⟨rfl, rfl⟩, id, ?_⟩ Keeps.setMailbox.adopts
  rintro ⟨hw, hwin, hcyc⟩
  refine ⟨hw, fun x => ?_, fun x hx => ?_⟩
  · cases x
    · exact hwin .h0
    · exact nofun
  · cases x
    · exact hcyc .h0 nofun
    · exact nofun

/-- Head 1 made present is in CURE at its default setpoint. -/
theorem Adopts.addHead : Adopts s s.addHead := by
  refine .trans (.trans (t := (({ s with press := { s.press with headsPresent := 2 } } :
    State).modifyHead .h1 fun d => { d with state := .free, cls := .cure }).modifyThermal .h1 fun t =>
      { t with setpoint := (s.pass.get .cure).defSetpoint }) ⟨⟨rfl, rfl⟩, id, ?_⟩
    Keeps.startPark.adopts) Keeps.settle.adopts
  rintro ⟨hw, hwin, hcyc⟩
  refine ⟨hw, fun x => ?_, fun x hx => ?_⟩
  · cases x
    · exact hwin .h0
    · exact fun _ => ⟨Nat.le_refl _, hw.2.2.1⟩
  · cases x
    · exact hcyc .h0 nofun
    · exact nofun

theorem Adopts.writeHeadsPresent {n : Nat} {t : State} (h : s.writeHeadsPresent n = some t) :
    Adopts s t := by
  unfold State.writeHeadsPresent at h
  split at h
  · split at h
    · cases h
    · cases h; exact .removeHead
  · split at h
    · cases h; exact .refl
    · cases h; exact .addHead

theorem Adopts.writeFlat {q : FlatParam} {n x : Nat} {t : State} (h : s.writeFlat q n = some (x, t)) :
    Adopts s t := by
  have params (v : Params) : Adopts s { s with params := v } :=
    ⟨⟨rfl, rfl⟩, id, fun hs => hs.congr rfl rfl rfl rfl rfl⟩
  have press (v : PressParams) (hv : v.headsPresent = s.press.headsPresent) :
      Adopts s { s with press := v } :=
    ⟨⟨rfl, rfl⟩, id, fun hs => hs.congr rfl rfl hv rfl rfl⟩
  cases q with
  | line k =>
    cases k with
    | platenCount =>
      obtain ⟨u, hu, he⟩ := Option.map_eq_some_iff.mp h
      cases he; exact .writePlatenCount hu
    | _ => cases h; exact params _
  | press k =>
    cases k with
    | headsPresent =>
      obtain ⟨u, hu, he⟩ := Option.map_eq_some_iff.mp h
      cases he; exact .writeHeadsPresent hu
    | _ => cases h; exact press _ rfl

theorem Keeps.configWrite {sel : Selector} {arg : Arg} :
    Keeps none none s (bodyConfigWrite sel arg s).2 := by
  unfold bodyConfigWrite
  dsimp only
  split
  · exact .refl
  · split
    · exact .refl
    · rename_i hopen
      split
      · split
        · rename_i hwrite
          exact Adopts.keeps hopen (.writeFlat hwrite)
        · exact .refl
      · split
        · unfold wideWrite
          split
          · exact .refl
          · split
            · exact .refl
            · exact Adopts.keeps hopen (.writeRows _)
        · unfold rowWrite
          split
          · exact .refl
          · exact Adopts.keeps hopen .writeRow

end

end Sys2Proof.Machine
end

section
/-! PROOF. Every command but a full reset and a block of a load run meets the relation of every step;
the four invariants of every step follow. -/

namespace Sys2Proof.Machine

open Sys2Proof

/-! ## The blocks that the port machinery and the press own -/

section
variable {s : State} {p : Port} {sel : Selector} {arg : Arg}

/-- A fetch clears a kind that is not shown, or one whose slot is empty (R178). -/
theorem Keeps.fetchNotice : Keeps none none s (bodyFetchNotice p s).2 := by
  unfold bodyFetchNotice
  dsimp only
  split
  · exact .refl
  · rename_i i _
    split
    · exact .refl
    · rename_i hgoes
      refine ⟨fun hc => ⟨hc, rfl, rfl, rfl, rfl⟩, ⟨rfl, rfl⟩, ?_,
        fun hs => hs.congr rfl rfl rfl rfl rfl⟩
      rintro ⟨h0, h1⟩
      have other (j : Fin 8) (hj : j ≠ i ∨ p ≠ .press) :
          (((s.modifyPort p fun ps => { ps with notices := ps.notices.set i ⟨false, 0⟩ }).ports.get
            .press).notices.get j) = (s.ports.get .press).notices.get j := by
        rcases hj with hj | hp
        · cases p <;> simp [PerPort.modify, PerPort.get, PerPort.set, hj]
        · rw [State.modifyPort_ports, PerPort.get_modify_ne _ _ (Ne.symm hp)]
      have cleared (j : Fin 8) (hj : j = i) (hp : p = .press) :
          (((s.modifyPort p fun ps => { ps with notices := ps.notices.set i ⟨false, 0⟩ }).ports.get
            .press).notices.get j).pending = false := by
        subst hj hp
        simp
      have kept (j : Fin 8) (m : Option Assignment)
          (hm : p = .press → i = j → m.isSome = false)
          (hj : ((s.ports.get .press).notices.get j).pending = m.isSome) :
          (((s.modifyPort p fun ps => { ps with notices := ps.notices.set i ⟨false, 0⟩ }).ports.get
            .press).notices.get j).pending = m.isSome := by
        by_cases hclear : j = i ∧ p = .press
        · rw [cleared j hclear.1 hclear.2, hm hclear.2 hclear.1.symm]
        · rw [other j (by tauto), hj]
      simp only [State.staysPending, Bool.not_eq_true, Bool.and_eq_false_iff, Bool.or_eq_false_iff,
        beq_eq_false_iff_ne] at hgoes
      exact ⟨kept 0 _ (fun hp hi => by tauto) h0, kept 1 _ (fun hp hi => by tauto) h1⟩

theorem Keeps.takeAssignment : Keeps none none s (bodyTakeAssignment sel s).2 := by
  unfold bodyTakeAssignment
  split
  · exact .refl
  · rename_i h _
    split
    · exact .refl
    · dsimp only
      refine .trans (t := s.setMailbox h none) .setMailbox ?_
      split
      · exact .modifyHead (fun _ => rfl) (fun _ => rfl) fun _ => rfl
      · split
        · exact .trans .startPark .settle
        · exact .refl
      · exact .refl

theorem Keeps.pressClosed : Keeps none none s (bodyPressClosed sel s).2 := by
  unfold bodyPressClosed
  split
  · exact .refl
  · dsimp only
    split
    · split
      · split
        · exact .closeHead
        · exact .refl
      · exact .refl
    · exact .refl
    · exact .refl
    · exact .refl

theorem Keeps.pressSample : Keeps none none s (bodyPressSample sel arg s).2 := by
  unfold bodyPressSample
  split
  · exact .refl
  · rename_i h _
    split
    · rename_i hclosed
      refine .trans .countSample (.judgeSample ?_)
      cases h <;> exact hclosed
    · exact .refl
    · split <;> exact .refl

theorem Keeps.pressOpened : Keeps none none s (bodyPressOpened sel s).2 := by
  unfold bodyPressOpened
  split
  · exact .refl
  · dsimp only
    split
    · exact Keeps.openHead.weaken
    · exact .trans .judgeOpening .openHead
    · exact Keeps.openHead.weaken
    · exact .refl

theorem Keeps.headDecline : Keeps none none s (bodyHeadDecline sel arg s).2 := by
  unfold bodyHeadDecline
  split
  · exact .refl
  · exact .decline

theorem Keeps.restoreHead : Keeps none none s (bodyRestoreHead sel s).2 := by
  unfold bodyRestoreHead
  split
  · exact .refl
  · split
    · exact .trans Keeps.freeHead.weaken .settle
    · exact .refl

theorem Keeps.arrive : Keeps none none s (bodyArrive p sel s).2 := by
  have placed (u : State) (q : PlatenIx) (mark : Bool) : Keeps none none u (u.place p q mark).2 := by
    unfold State.place
    dsimp only
    split
    · exact .of_essence rfl
    · exact .of_essence rfl
    · split
      · exact .trans (.of_essence (u.joinTail_essence _ _)) .grantEval
      · exact .of_essence rfl
  unfold bodyArrive
  split
  · exact .refl
  · split
    · exact .refl
    · split
      · exact .refl
      · exact .trans (.of_essence (s.takeOut_essence _ _)) (placed _ _ _)

theorem Keeps.cancel : Keeps none none s (bodyCancelLine arg s).2 := by
  unfold bodyCancelLine
  dsimp only
  split
  · exact .cancelLine
  · exact .cancelLine
  · exact .refl

theorem Keeps.closeCommissioning : Keeps none none s (bodyCloseCommissioning s).2 :=
  ⟨fun _ => ⟨rfl, rfl, rfl, rfl, rfl⟩, ⟨rfl, rfl⟩, id, fun hs => hs.congr rfl rfl rfl rfl rfl⟩

/-! ## The blocks that work outside what the invariants speak of -/

theorem bodyNoticeMaskWrite_essence : (bodyNoticeMaskWrite p arg s).2.essence = s.essence :=
  State.modifyPort_essence fun _ => rfl

theorem bodyReadPlaten_snd : (bodyReadPlaten sel arg s).2 = s := by
  unfold bodyReadPlaten
  split
  · rfl
  · split
    · rfl
    · split
      · rfl
      · split
        · rfl
        · split <;> rfl

theorem bodyPostLine_essence : (bodyPostLine sel arg s).2.essence = s.essence := by
  unfold bodyPostLine
  split
  · rfl
  · dsimp only
    split
    · rfl
    · split
      · rfl
      · split
        · rfl
        · split
          · rfl
          · rfl

theorem bodyAmendLine_essence : (bodyAmendLine arg s).2.essence = s.essence := by
  unfold bodyAmendLine
  dsimp only
  split
  · rfl
  · rfl
  · exact s.updateLine_essence _ _

theorem bodyHoldLine_essence : (bodyHoldLine arg s).2.essence = s.essence := by
  unfold bodyHoldLine
  dsimp only
  split <;> rfl

theorem bodyRetireLine_essence : (bodyRetireLine arg s).2.essence = s.essence := by
  unfold bodyRetireLine
  dsimp only
  split
  · split <;> rfl
  · split <;> rfl
  · rfl

theorem bodyReadLine_snd : (bodyReadLine sel arg s).2 = s := by
  unfold bodyReadLine
  split
  · split <;> rfl
  · split
    · rfl
    · split <;> rfl

theorem bodyLoadScan_essence : (bodyLoadScan sel arg s).2.essence = s.essence := by
  unfold bodyLoadScan
  split
  · rfl
  · split
    · rfl
    · split
      · rfl
      · split
        · unfold forcedScan
          split
          · rfl
          · dsimp only
            split
            · rfl
            · split
              · rfl
              · split
                · rfl
                · exact s.bind_essence _ _
        · unfold autoScan
          split
          · exact s.bind_essence _ _
          · rfl

theorem bodyUnload_essence : (bodyUnload sel s).2.essence = s.essence := by
  unfold bodyUnload
  split
  · rfl
  · split
    · rfl
    · split
      · rfl
      · exact s.unloadTicket_essence _ _

theorem bodyArtworkOpen_essence : (bodyArtworkOpen sel s).2.essence = s.essence := by
  unfold bodyArtworkOpen
  split
  · rfl
  · split <;> rfl

theorem bodySegmentSet_essence : (bodySegmentSet sel arg s).2.essence = s.essence := by
  unfold bodySegmentSet
  split
  · rfl
  · split
    · rfl
    · split
      · rfl
      · dsimp only
        split
        · rfl
        · split
          · rfl
          · split
            · rfl
            · split <;> rfl

theorem bodySegmentDrop_essence : (bodySegmentDrop sel arg s).2.essence = s.essence := by
  unfold bodySegmentDrop
  split
  · rfl
  · dsimp only
    split
    · rfl
    · split
      · rfl
      · split <;> rfl

theorem bodyArtworkDelete_essence : (bodyArtworkDelete sel s).2.essence = s.essence := by
  unfold bodyArtworkDelete
  split
  · rfl
  · split
    · rfl
    · split <;> rfl

theorem bodyLoadRun_essence : (bodyLoadRun sel arg s).2.essence = s.essence := by
  unfold bodyLoadRun
  split
  · rfl
  · dsimp only
    split
    · rfl
    · split
      · rfl
      · split
        · exact s.recordFault_essence _ _ _ _ _ _ _
        · rfl

theorem bodyLoadAbort_essence : (bodyLoadAbort s).2.essence = s.essence := by
  unfold bodyLoadAbort
  split
  · rfl
  · exact s.endLoadRun_essence _ _

theorem bodyReadWord_essence : (bodyReadWord sel arg s).2.essence = s.essence := by
  unfold bodyReadWord
  split
  · rfl
  · dsimp only
    split
    · exact s.recordFault_essence _ _ _ _ _ _ _
    · rfl

theorem bodyPreflightStart_essence : (bodyPreflightStart sel arg s).2.essence = s.essence := by
  unfold bodyPreflightStart
  split
  · rfl
  · dsimp only
    split
    · rfl
    · split
      · rfl
      · split
        · rfl
        · split
          · rfl
          · exact s.startPreflight_essence _ _

theorem bodyPreflightAbandon_essence : (bodyPreflightAbandon s).2.essence = s.essence := by
  unfold bodyPreflightAbandon
  split
  · exact s.abandonPreflight_essence
  · rfl

theorem bodyConfigRead_snd : (bodyConfigRead sel arg s).2 = s := by
  unfold bodyConfigRead
  split
  · rfl
  · rfl
  · dsimp only
    split <;> rfl

theorem bodyClearFault_essence : (bodyClearFault sel s).2.essence = s.essence := by
  unfold bodyClearFault
  split
  · rfl
  · dsimp only
    split <;> rfl

theorem bodyReadFault_snd : (bodyReadFault sel arg s).2 = s := by
  unfold bodyReadFault
  split
  · rfl
  · dsimp only
    split <;> rfl

theorem bodyReadArtwork_snd : (bodyReadArtwork sel arg s).2 = s := by
  unfold bodyReadArtwork
  split
  · rfl
  · split <;> rfl

theorem bodyReadPreflight_snd : (bodyReadPreflight sel arg s).2 = s := by
  unfold bodyReadPreflight
  split
  · rfl
  · split <;> rfl

theorem bodyReadBed_snd : (bodyReadBed sel arg s).2 = s := by
  unfold bodyReadBed
  split
  · rfl
  · split <;> rfl

theorem bodyReadPress_snd : (bodyReadPress sel arg s).2 = s := by
  unfold bodyReadPress
  split
  · dsimp only
    split <;> rfl
  · rfl
  · split
    · split <;> rfl
    · rfl

theorem bodyReadThermal_snd : (bodyReadThermal sel arg s).2 = s := by
  unfold bodyReadThermal
  split
  · rfl
  · split <;> rfl

theorem bodyPretreatStart_essence : (bodyPretreatStart sel s).2.essence = s.essence := by
  unfold bodyPretreatStart
  split
  · rfl
  · split
    · rfl
    · split
      · rfl
      · unfold startSpray
        split
        · rfl
        · split
          · rfl
          · split
            · rfl
            · split <;> rfl

theorem bodyPretreatDone_essence : (bodyPretreatDone sel arg s).2.essence = s.essence := by
  have left (u : State) (q : PlatenIx) : (u.leaveSlot q).essence = u.essence := rfl
  unfold bodyPretreatDone
  split
  · rfl
  · split
    · rfl
    · split
      · rfl
      · split
        · unfold judgeSpray
          dsimp only
          split
          · rfl
          · split
            · rfl
            · rw [left, State.spoil_essence]; rfl
        · rfl

theorem bodyPrintStart_essence : (bodyPrintStart sel arg s).2.essence = s.essence := by
  unfold bodyPrintStart
  split
  · split
    · rfl
    · split
      · rfl
      · unfold startPrint
        split
        · rfl
        · split
          · rfl
          · split <;> rfl
  · rfl

theorem bodyStripe_essence : (bodyStripe sel arg s).2.essence = s.essence := by
  unfold bodyStripe
  split
  · rfl
  · dsimp only
    split
    · rfl
    · split
      · rfl
      · split
        · rfl
        · split
          · exact s.recordFault_essence _ _ _ _ _ _ _
          · simp

theorem bodyStripeCut_essence : (bodyStripeCut sel s).2.essence = s.essence := by
  unfold bodyStripeCut
  split
  · rfl
  · split
    · exact s.cutRun_essence _ _
    · rfl

theorem bodyPrintEnd_essence : (bodyPrintEnd sel arg s).2.essence = s.essence := by
  unfold bodyPrintEnd
  split
  · rfl
  · dsimp only
    split
    · rfl
    · split
      · split
        · split <;> simp
        · simp
      · simp

end

/-! ## Every command of a frame -/

/-- A command frame meets the relation where its block does. -/
theorem Keeps.takeFrame {c : Cmd} {p : Port} {body : Body} {s t : State}
    (hbody : ∀ u, Keeps none none u (body u).2) (h : takeFrame c p body s = .next t) :
    Keeps none none s t := by
  rcases takeFrame_cases h with rfl | ⟨s1, hs1, ⟨-, rfl⟩ | ⟨-, rfl⟩⟩
  · exact .of_essence (s.releaseSelect_essence p)
  · exact .trans (.trans (.of_essence (State.openFrame_essence hs1)) (hbody s1))
      (.of_essence (State.finish_essence _ _ _ _))
  · refine .of_essence ?_
    rw [State.refuseFrame_essence, State.driveReply_essence, State.openFrame_essence hs1]

theorem Keeps.of_body_essence {c : Cmd} {p : Port} {body : Body} {s t : State}
    (hbody : ∀ u, (body u).2.essence = u.essence) (h : Machine.takeFrame c p body s = .next t) :
    Keeps none none s t :=
  .takeFrame (fun u => .of_essence (hbody u)) h

theorem Keeps.of_body_snd {c : Cmd} {p : Port} {body : Body} {s t : State}
    (hbody : ∀ u, (body u).2 = u) (h : Machine.takeFrame c p body s = .next t) :
    Keeps none none s t :=
  .of_body_essence (fun u => congrArg State.essence (hbody u)) h

theorem Keeps.extend {p : Port} {arg : Arg} {s t : State} (h : execExtend p arg s = .next t) :
    Keeps none none s t := by
  refine .of_essence ?_
  unfold execExtend at h
  split at h
  · cases h; exact s.releaseSelect_essence p
  · rename_i s1 hs1
    cases h
    rw [State.finish_essence, State.openFrame_essence hs1]

theorem Keeps.runFrame {i : Instr} {s t : State} (h : runFrame i s = .next t) :
    Keeps none none s t := by
  cases i with
  | nop p => exact .of_body_snd (fun _ => rfl) h
  | extend p arg => exact .extend h
  | readId p => exact .of_body_snd (fun _ => rfl) h
  | fetchNotice p => exact .takeFrame (fun _ => .fetchNotice) h
  | noticeMaskRead p => exact .of_body_snd (fun _ => rfl) h
  | noticeMaskWrite p arg => exact .of_body_essence (fun _ => bodyNoticeMaskWrite_essence) h
  | readPlaten p sel arg => exact .of_body_snd (fun _ => bodyReadPlaten_snd) h
  | postLine sel arg => exact .of_body_essence (fun _ => bodyPostLine_essence) h
  | amendLine arg => exact .of_body_essence (fun _ => bodyAmendLine_essence) h
  | holdLine arg => exact .of_body_essence (fun _ => bodyHoldLine_essence) h
  | cancelLine arg => exact .takeFrame (fun _ => .cancel) h
  | retireLine arg => exact .of_body_essence (fun _ => bodyRetireLine_essence) h
  | readLine sel arg => exact .of_body_snd (fun _ => bodyReadLine_snd) h
  | loadScan sel arg => exact .of_body_essence (fun _ => bodyLoadScan_essence) h
  | unload sel => exact .of_body_essence (fun _ => bodyUnload_essence) h
  | artworkOpen sel => exact .of_body_essence (fun _ => bodyArtworkOpen_essence) h
  | segmentSet sel arg => exact .of_body_essence (fun _ => bodySegmentSet_essence) h
  | segmentDrop sel arg => exact .of_body_essence (fun _ => bodySegmentDrop_essence) h
  | artworkDelete sel => exact .of_body_essence (fun _ => bodyArtworkDelete_essence) h
  | loadRun sel arg => exact .of_body_essence (fun _ => bodyLoadRun_essence) h
  | loadAbort => exact .of_body_essence (fun _ => bodyLoadAbort_essence) h
  | readWord sel arg => exact .of_body_essence (fun _ => bodyReadWord_essence) h
  | preflightStart sel arg => exact .of_body_essence (fun _ => bodyPreflightStart_essence) h
  | preflightAbandon => exact .of_body_essence (fun _ => bodyPreflightAbandon_essence) h
  | restoreHead sel => exact .takeFrame (fun _ => .restoreHead) h
  | configRead sel arg => exact .of_body_snd (fun _ => bodyConfigRead_snd) h
  | configWrite sel arg => exact .takeFrame (fun _ => .configWrite) h
  | closeCommissioning => exact .takeFrame (fun _ => .closeCommissioning) h
  | lineClear => exact .takeFrame (fun _ => .lineClear) h
  | clearFault p sel => exact .of_body_essence (fun _ => bodyClearFault_essence) h
  | readFault p sel arg => exact .of_body_snd (fun _ => bodyReadFault_snd) h
  | readArtwork p sel arg => exact .of_body_snd (fun _ => bodyReadArtwork_snd) h
  | readPreflight p sel arg => exact .of_body_snd (fun _ => bodyReadPreflight_snd) h
  | readBed p sel arg => exact .of_body_snd (fun _ => bodyReadBed_snd) h
  | readPress p sel arg => exact .of_body_snd (fun _ => bodyReadPress_snd) h
  | readThermal p sel arg => exact .of_body_snd (fun _ => bodyReadThermal_snd) h
  | arrive p sel => exact .takeFrame (fun _ => .arrive) h
  | pretreatStart sel => exact .of_body_essence (fun _ => bodyPretreatStart_essence) h
  | pretreatDone sel arg => exact .of_body_essence (fun _ => bodyPretreatDone_essence) h
  | printStart sel arg => exact .of_body_essence (fun _ => bodyPrintStart_essence) h
  | stripe sel arg => exact .of_body_essence (fun _ => bodyStripe_essence) h
  | stripeCut sel => exact .of_body_essence (fun _ => bodyStripeCut_essence) h
  | printEnd sel arg => exact .of_body_essence (fun _ => bodyPrintEnd_essence) h
  | takeAssignment sel => exact .takeFrame (fun _ => .takeAssignment) h
  | pressClosed sel => exact .takeFrame (fun _ => .pressClosed) h
  | pressSample sel arg => exact .takeFrame (fun _ => .pressSample) h
  | pressOpened sel => exact .takeFrame (fun _ => .pressOpened) h
  | headDecline sel arg => exact .takeFrame (fun _ => .headDecline) h
  | _ => cases h; exact .refl

theorem Keeps.frameRefused {p : Port} {bits : List Bool} {s t : State}
    (h : execFrameRefused p bits s = .next t) : Keeps none none s t := by
  unfold execFrameRefused at h
  split at h
  · cases h; exact .of_essence (s.releaseSelect_essence p)
  · rename_i s1 hs1
    refine .trans (.of_essence (State.openFrame_essence hs1))
      (.trans (.of_essence (s1.shiftIn_essence p bits)) ?_)
    unfold State.judge at h
    split at h
    · cases h; exact .of_essence (State.releaseSelect_essence _ _)
    · split at h
      · cases h; exact .of_essence (State.refuseFrame_essence _ _ _)
      · exact .runFrame h

/-! ## Every step -/

/-- A command that a frame carries is carried out as the frame's (R168). -/
theorem exec_eq_runFrame {i : Instr} {r : Request} (hi : i.request = some r) (s : State) :
    exec i s = runFrame i s := by
  cases i <;> first | rfl | cases hi

/-- The two commands that the relation of every step leaves out. -/
def writesStoreOrResets : Instr → Bool
  | .fullReset _ | .loadLinkBlock _ _ => true
  | _ => false

/-- Every command but a full reset and a block of a load run meets the relation. -/
theorem Keeps.exec {i : Instr} {s t : State} (hi : writesStoreOrResets i = false)
    (h : exec i s = .next t) : Keeps none none s t := by
  have expiry {b : Bool} {u : State} (hu : Keeps none none s u)
      (hif : (if b then .next u else .next s : Host.Outcome State Fault Refusal) = .next t) :
      Keeps none none s t := by
    cases b <;> cases hif
    · exact .refl
    · exact hu
  cases i with
  | selectAssertion p => cases h; exact .of_essence (s.assertSelect_essence p)
  | frameRefused p bits => exact .frameRefused h
  | fullReset cause => cases hi
  | loadLinkBlock first more => cases hi
  | closeTimerExpiry x => exact expiry .pressTimeout h
  | sampleTimerExpiry x => exact expiry .pressTimeout h
  | releaseTimerExpiry x => exact expiry .releaseTimeout h
  | parkTimerExpiry x => exact expiry .parkTimeout h
  | preflightBlockRead => exact expiry (.of_essence s.scanBlock_essence) h
  | stripeSendComplete =>
    change (match s.link.sending with
      | some k => .next (s.completeSend k)
      | none => .next s : Host.Outcome State Fault Refusal) = .next t at h
    split at h
    · cases h; exact .of_essence (s.completeSend_essence _)
    · cases h; exact .refl
  | _ => exact .runFrame ((exec_eq_runFrame rfl s).symm.trans h)

/-- Every step but a full reset and a block of a load run meets the relation. -/
theorem Keeps.step {s t : State} (hs : ∀ c rest, s.pending = c :: rest → writesStoreOrResets c = false)
    (h : step s = .next t) : Keeps none none s t := by
  unfold Machine.step at h
  split at h
  · cases h; exact .tick
  · rename_i c rest hpending
    exact .trans (.of_essence (t := { s with pending := rest }) rfl) (.exec (hs c rest hpending) h)

/-! ## A block of a load run -/

/-- The parts of the essence besides the store that a word on the load link leaves, and what it does to
the store: nothing, or the write of a block. -/
def LinkKeeps (s t : State) : Prop :=
  ∃ m, t.essence = { s.essence with store := m } ∧ (StoreCanonical s → Memory.wf m)

theorem LinkKeeps.of_essence {s t : State} (h : t.essence = s.essence) : LinkKeeps s t :=
  ⟨s.store, h, id⟩

theorem LinkKeeps.trans {s t u : State} (h1 : LinkKeeps s t) (h2 : LinkKeeps t u) : LinkKeeps s u := by
  obtain ⟨m, ht, hm⟩ := h1
  obtain ⟨n, hu, hn⟩ := h2
  refine ⟨n, by rw [hu, ht], fun hs => hn ?_⟩
  rw [StoreCanonical, show t.store = m from congrArg Essence.store ht]
  exact hm hs

/-- A good block is written whole, or the run ends with a fault (R74). -/
theorem LinkKeeps.judgeGood {s : State} {r : LoadRun} {b : Block} : LinkKeeps s (s.judgeGood r b) := by
  unfold State.judgeGood
  dsimp only
  generalize r.first + r.written = n
  generalize (if 255 < n then AccessBlock.edge 255 else AccessBlock.block n) = at_
  split
  · exact .of_essence (by simp)
  · refine ⟨Memory.write s.store ((s.segment r.artwork r.segment).base + n) b, ?_,
      Memory.write_wf _ b⟩
    split
    · rw [State.endLoadRun_essence]; rfl
    · rfl

theorem LinkKeeps.linkWord {s : State} {w : LinkWord} : LinkKeeps s (s.linkWord w) := by
  have bad (u : State) (b : LoadBlock) : (u.judgeBad b).essence = u.essence := by
    rcases u.judgeBad_cases b with he | ⟨r, -, -, he⟩ <;> simp [he]
  have out : ({ s with loadBlock := none } : State).essence = s.essence := rfl
  rcases s.linkWord_cases w with he | he | ⟨b, -, ⟨x, he⟩ | ⟨x, he⟩ | he | he⟩ <;> rw [he]
  · exact .of_essence rfl
  · exact .of_essence rfl
  · exact .of_essence rfl
  · refine LinkKeeps.trans (.of_essence out) ?_
    rcases State.judgeComplete_cases _ b x with he | ⟨r, -, -, ⟨hb, he⟩ | he⟩ <;> rw [he]
    · exact .of_essence rfl
    · exact .judgeGood
    · exact .of_essence (State.endLoadRun_essence _ _ _)
  · exact .of_essence ((bad _ b).trans out)
  · exact .of_essence ((bad _ b).trans out)

theorem LinkKeeps.words {s : State} (ws : List LinkWord) : LinkKeeps s (ws.foldl State.linkWord s) := by
  induction ws generalizing s with
  | nil => exact .of_essence rfl
  | cons w ws ih => exact .trans .linkWord ih

/-- A word of the load link leaves what the relation of every step speaks of, but the store. -/
theorem LinkKeeps.keeps {s t : State} (h : LinkKeeps s t) :
    Keeps none none s { t with store := s.store } := by
  obtain ⟨m, ht, -⟩ := h
  refine .of_essence ?_
  simp only [State.essence, Essence.mk.injEq] at ht
  obtain ⟨hopen, hparams, hfabric, hpress, hpass, -, hon, hshown, hheads, hthermal⟩ := ht
  simp only [State.essence, Essence.mk.injEq]
  exact ⟨hopen, hparams, hfabric, hpress, hpass, trivial, hon, hshown, hheads, hthermal⟩

/-! ## A full reset -/

theorem State.reset_heldSave : HeldSave none State.reset :=
  setpointsHeld_iff.mp (by decide +kernel)

theorem State.fullReset_heldSave (s : State) (cause : ResetCause) :
    HeldSave none (s.fullReset cause) :=
  State.reset_heldSave.congr rfl rfl rfl rfl rfl

theorem State.fullReset_shown (s : State) (cause : ResetCause) :
    MailboxesShown (s.fullReset cause) := ⟨rfl, rfl⟩

theorem State.fullReset_canonical {s : State} (cause : ResetCause) (hs : StoreCanonical s) :
    StoreCanonical (s.fullReset cause) := by
  cases cause with
  | pin => exact hs
  | powerOn => exact Memory.nil_wf

/-! ## The step of each kind -/

/-- A step is a full reset, a block of a load run, or meets the relation. -/
theorem step_cases {s t : State} (h : step s = .next t) :
    (∃ cause rest, s.pending = .fullReset cause :: rest ∧
        t = ({ s with pending := rest } : State).fullReset cause) ∨
      (∃ first more rest, s.pending = .loadLinkBlock first more :: rest ∧ LinkKeeps s t) ∨
      ((∀ c rest, s.pending = c :: rest → writesStoreOrResets c = false) ∧ Keeps none none s t) := by
  cases hpending : s.pending with
  | nil => exact .inr (.inr ⟨nofun, .step (by simp [hpending]) h⟩)
  | cons c rest =>
    have hexec : exec c { s with pending := rest } = .next t := by
      rw [← h, Machine.step, hpending]
    by_cases hc : writesStoreOrResets c = false
    · have hfront : ∀ d more, c :: rest = d :: more → writesStoreOrResets d = false := by
        rintro d more he; cases he; exact hc
      exact .inr (.inr ⟨hfront, .step (by rwa [hpending]) h⟩)
    · cases c with
      | fullReset cause => cases hexec; exact .inl ⟨cause, rest, rfl, rfl⟩
      | loadLinkBlock first more =>
        cases hexec
        exact .inr (.inl ⟨first, more, rest, rfl, LinkKeeps.trans
          (.of_essence (t := { s with pending := rest }) rfl) (.trans .linkWord (.words more))⟩)
      | _ => exact absurd rfl hc

/-- Settles O56: a step that is no full reset leaves closed commissioning and its parameters. -/
theorem commissioningClosedKeepsParameters : Obligations.CommissioningClosedKeepsParameters := by
  intro s t hclosed h hfront
  rcases step_cases h with ⟨cause, rest, hpending, -⟩ | ⟨first, more, rest, -, hlink⟩ | ⟨-, hkeeps⟩
  · cases hfront _ _ hpending
  · exact hlink.keeps.closed hclosed
  · exact hkeeps.closed hclosed

/-- Settles O57: of the two commands that the relation leaves out, a block of a load run writes whole
blocks, and a full reset keeps the store or empties it. -/
theorem storeIsKept : Obligations.StoreIsKept := by
  intro s t hs h
  rcases step_cases h with ⟨cause, rest, hpending, rfl⟩ | ⟨first, more, rest, hpending, hlink⟩ |
    ⟨-, hkeeps⟩
  · refine ⟨State.fullReset_canonical cause hs, fun hfront => ?_⟩
    cases cause with
    | pin => exact ⟨rfl, rfl⟩
    | powerOn => cases hfront _ _ hpending
  · refine ⟨?_, fun hfront => nomatch hfront _ _ hpending⟩
    obtain ⟨m, ht, hm⟩ := hlink
    rw [StoreCanonical, show t.store = m from congrArg Essence.store ht]
    exact hm hs
  · refine ⟨?_, fun _ => hkeeps.store⟩
    rw [StoreCanonical, hkeeps.store.1]
    exact hs

/-- Settles O58: every step sets a slot and its notice together. -/
theorem mailboxesStayShown : Obligations.MailboxesStayShown := by
  intro s t hs h
  rcases step_cases h with ⟨cause, rest, -, rfl⟩ | ⟨first, more, rest, -, hlink⟩ | ⟨-, hkeeps⟩
  · exact State.fullReset_shown _ cause
  · exact hlink.keeps.shown hs
  · exact hkeeps.shown hs

/-- Settles O59: a setpoint moves within its class's window, or to the default of a class that
changes, and a changed window re-clamps it. -/
theorem setpointsStayHeld : Obligations.SetpointsStayHeld := by
  intro s t hs h
  rw [setpointsHeld_iff] at hs ⊢
  rcases step_cases h with ⟨cause, rest, -, rfl⟩ | ⟨first, more, rest, -, hlink⟩ | ⟨-, hkeeps⟩
  · exact State.fullReset_heldSave _ cause
  · exact (hlink.keeps.held hs).congr rfl rfl rfl rfl rfl
  · exact hkeeps.held hs

/-- Settles O60: no store block is listed, no slot holds an assignment, and both heads stand at CURE's
default setpoint. -/
theorem resetMeetsTheInvariants : Obligations.ResetMeetsTheInvariants :=
  ⟨Memory.nil_wf, ⟨rfl, rfl⟩, setpointsHeld_iff.mpr State.reset_heldSave⟩

/-- Settles O1: a step takes the command at the front and runs it. -/
theorem stepRunsFrontCommand : Obligations.StepRunsFrontCommand := fun _ _ _ => rfl

end Sys2Proof.Machine
end

section
/-! PROOF. Frames: their bits, their check code and their fields (R168, R169, section 11.2), and what a
command frame does in each condition of its port (R168, R170, R173). -/

namespace Sys2Proof

/-! ## The bits of a frame (R168, section 11.1) -/

/-- The first `n` clock edges of a frame leave its `n` highest bits in the receiver. -/
theorem receive_take (f : BitVec 56) {n : Nat} (hn : n ≤ 56) :
    receive ((List.range n).map fun i => f.getLsbD (55 - i)) = ⟨n, f >>> (56 - n)⟩ := by
  induction n with
  | zero =>
    have hempty : f >>> 56 = 0#56 := by
      apply BitVec.eq_of_getLsbD_eq
      intro i _
      simp
    simp [receive, Receiver.start, hempty]
  | succ n ih =>
    have hshift : (f >>> (56 - n)) <<< 1 ||| (BitVec.ofBool (f.getLsbD (55 - n))).setWidth 56 =
        f >>> (56 - (n + 1)) := by
      apply BitVec.eq_of_getLsbD_eq
      intro i hi
      rcases i with _ | i
      · simp [show 56 - (n + 1) = 55 - n by omega]
      · have hbit : 56 - n + i = 56 - (n + 1) + (i + 1) := by omega
        simp [hi, hbit]
    have hcount : satAdd 255 n 1 = n + 1 := by unfold satAdd; omega
    have ih' := ih (by omega)
    unfold receive at ih' ⊢
    rw [List.range_succ, List.map_append, List.foldl_append, ih']
    simp only [List.map_cons, List.map_nil, List.foldl_cons, List.foldl_nil, Receiver.edge, hshift,
      hcount]

theorem receive_frameBits (f : BitVec 56) : receive (frameBits f) = ⟨56, f⟩ := by
  rw [frameBits, receive_take f (Nat.le_refl 56)]
  simp

/-! ## The check code's residue (R169, section 10.2.1) -/

theorem crcStep_eq (reg : BitVec 8) (b : Bool) :
    crcStep reg b = reg <<< 1 ^^^ if reg.msb ^^ b then 0x07#8 else 0#8 := by
  unfold crcStep
  split <;> simp

/-- A step of the check register is linear in the register. -/
theorem crcStep_xor (x y : BitVec 8) (b : Bool) :
    crcStep (x ^^^ y) b = crcStep x false ^^^ crcStep y b := by
  have hpattern : (if (x.msb ^^ y.msb) ^^ b then 0x07#8 else 0#8) =
      (if x.msb ^^ false then 0x07#8 else 0#8) ^^^ (if y.msb ^^ b then 0x07#8 else 0#8) := by
    cases x.msb <;> cases y.msb <;> cases b <;> rfl
  rw [crcStep_eq, crcStep_eq, crcStep_eq, BitVec.msb_xor, BitVec.shiftLeft_xor_distrib, hpattern]
  ac_rfl

/-- Feeding bits is the sum of what the register becomes without them and what they become alone. -/
theorem crc_foldl_xor (bits : List Bool) (x y : BitVec 8) :
    bits.foldl crcStep (x ^^^ y) =
      (List.replicate bits.length false).foldl crcStep x ^^^ bits.foldl crcStep y := by
  induction bits generalizing x y with
  | nil => rfl
  | cons b bits ih =>
    simp only [List.foldl_cons, List.length_cons, List.replicate_succ, crcStep_xor x y b, ih]

/-- The bits of a check field, most significant first. -/
def checkBits (c : BitVec 8) : List Bool := (List.range 8).map fun i => c.getLsbD (7 - i)

/-- A byte fed into an empty register is the byte run on with 8 bits of 0. -/
theorem crc_checkBits (c : BitVec 8) :
    (checkBits c).foldl crcStep 0#8 = (List.replicate 8 false).foldl crcStep c := by
  revert c; decide +kernel

/-- Eight bits of 0 lose nothing. -/
theorem crc_zeros_eq_zero_iff (c : BitVec 8) :
    (List.replicate 8 false).foldl crcStep c = 0#8 ↔ c = 0#8 := by
  revert c; decide +kernel

/-- A register ends at 0 exactly when it is fed with itself. -/
theorem crc_checkBits_eq_zero_iff (reg c : BitVec 8) :
    (checkBits c).foldl crcStep reg = 0#8 ↔ c = reg := by
  have hsum := crc_foldl_xor (checkBits c) reg 0#8
  have hzeros := crc_foldl_xor (List.replicate 8 false) reg c
  have hlen : (checkBits c).length = 8 := by simp [checkBits]
  rw [BitVec.xor_zero, crc_checkBits, hlen] at hsum
  rw [List.length_replicate] at hzeros
  rw [hsum, ← hzeros, crc_zeros_eq_zero_iff]
  constructor
  · intro h
    have := congrArg (reg ^^^ ·) h
    simpa [← BitVec.xor_assoc] using this
  · rintro rfl
    simp

/-- A frame travels as its first 48 bits and then its check field. -/
theorem frameBits_eq (f : BitVec 56) :
    frameBits f = bitsOf48 (frameBody f) ++ checkBits (frameCheck f) := by
  apply List.ext_getElem
  · simp [frameBits, bitsOf48, checkBits]
  · intro i h1 h2
    have hi : i < 56 := by simpa [frameBits] using h1
    by_cases hbody : i < 48
    · rw [List.getElem_append_left (by simpa [bitsOf48] using hbody)]
      simp [frameBits, bitsOf48, frameBody, show 47 - i < 48 by omega,
        show 8 + (47 - i) = 55 - i by omega]
    · rw [List.getElem_append_right (by simpa [bitsOf48] using hbody)]
      simp [frameBits, bitsOf48, checkBits, frameCheck,
        show 7 - (i - 48) = 55 - i by omega, show 55 - i < 8 by omega]

/-- Settles O5: the first edges of a frame leave its highest bits, and the residue follows from the
linearity of the check register. -/
theorem frameBitsAndCheckCode : Obligations.FrameBitsAndCheckCode := by
  refine ⟨receive_frameBits, by decide +kernel, fun f => ?_⟩
  rw [frameBits_eq, List.foldl_append]
  exact (crc_checkBits_eq_zero_iff _ _).symm

/-! ## The fields of a frame (section 11.2) -/

section
variable (body : BitVec 48) (c : BitVec 8)

theorem frameBody_append : frameBody (body ++ c : BitVec (48 + 8)) = body :=
  BitVec.extractLsb'_append_eq_left

theorem frameCheck_append : frameCheck (body ++ c : BitVec (48 + 8)) = c :=
  BitVec.extractLsb'_append_eq_right

/-- A field of the first 48 bits stands 8 bits above its place among them. -/
theorem extractLsb'_append_check {start len : Nat} :
    BitVec.extractLsb' (8 + start) len (body ++ c : BitVec (48 + 8)) =
      body.extractLsb' start len := by
  rw [BitVec.extractLsb'_append_eq_of_le (by omega), Nat.add_sub_cancel_left]

theorem getLsbD_append_check {i : Nat} :
    (body ++ c : BitVec (48 + 8)).getLsbD (8 + i) = body.getLsbD i := by
  rw [BitVec.getLsbD_append, if_neg (by omega), Nat.add_sub_cancel_left]

end

section
variable (code : BitVec 8) (sFlag : Bool) (sel : Selector) (arg : Arg)

theorem frameCheck_mkFrame :
    frameCheck (mkFrame code sFlag sel arg) = checkCode (frameBody (mkFrame code sFlag sel arg)) := by
  unfold mkFrame
  rw [frameCheck_append, frameBody_append]

theorem frameCode_mkFrame : frameCode (mkFrame code sFlag sel arg) = code := by
  refine (extractLsb'_append_check _ _ (start := 40)).trans ?_
  refine (BitVec.extractLsb'_append_eq_of_le (by decide)).trans ?_
  refine (BitVec.extractLsb'_append_eq_of_le (by decide)).trans ?_
  exact BitVec.extractLsb'_append_eq_left

theorem frameS_mkFrame : frameS (mkFrame code sFlag sel arg) = sFlag := by
  have hflag : (code ++ BitVec.ofBool sFlag ++ sel ++ arg : BitVec (8 + 1 + 7 + 32)).getLsbD 39 =
      sFlag := by
    rw [BitVec.getLsbD_append, if_neg (by decide), BitVec.getLsbD_append, if_neg (by decide),
      BitVec.getLsbD_append, if_pos (by decide)]
    simp
  exact (getLsbD_append_check _ _ (i := 39)).trans hflag

theorem frameSel_mkFrame : frameSel (mkFrame code sFlag sel arg) = sel := by
  refine (extractLsb'_append_check _ _ (start := 32)).trans ?_
  refine (BitVec.extractLsb'_append_eq_of_le (by decide)).trans ?_
  exact BitVec.extractLsb'_append_eq_right

theorem frameArg_mkFrame : frameArg (mkFrame code sFlag sel arg) = arg :=
  (extractLsb'_append_check _ _ (start := 0)).trans BitVec.extractLsb'_append_eq_right

end

/-- The fields of a request name its command again. -/
theorem Instr.ofFields_request (i : Instr) : Laws.Carried.Statement i := by
  cases i <;> intro r h <;> cases h <;> rfl

/-- Settles O4: each field of the encoder's frame is read back, and the fields name the command. -/
theorem decodeOfEncode : Obligations.DecodeOfEncode := by
  intro i r hi hrole
  have haccepted : r.cmd.acceptedOn r.port = true := by simpa [Instr.roleOk, hi] using hrole
  rw [Request.frame, decodeFrame_of_passed (frameCheck_mkFrame _ _ _ _)
    (frameCode_mkFrame _ _ _ _).symm haccepted, frameS_mkFrame, frameSel_mkFrame, frameArg_mkFrame]
  exact congrArg _ (i.ofFields_request r hi)

end Sys2Proof
end

section
/-! PROOF. What a command frame does in each condition of its port (R168, R170, R173), the reply that
is latched and driven (R171), the port commands, and the tick of an idle step. -/

namespace Sys2Proof.Machine

open Sys2Proof

/-! ## Every command completes (log 1) -/

/-- Every command frame but EXTEND is one block's, on its own port and under its own code. -/
theorem exists_body {i : Instr} {r : Request} (hi : i.request = some r) (hext : r.cmd ≠ .extend) :
    ∃ body : Body, ∀ s, exec i s = takeFrame r.cmd r.port body s := by
  cases i <;> cases hi <;> first | exact ⟨_, fun _ => rfl⟩ | exact absurd rfl hext

theorem request_of_extend {i : Instr} {r : Request} (hi : i.request = some r)
    (hext : r.cmd = .extend) : ∃ arg, i = .extend r.port arg := by
  cases i <;> cases hi <;> first | exact ⟨_, rfl⟩ | cases hext

theorem execExtend_next (p : Port) (arg : Arg) (s : State) : ∃ t, execExtend p arg s = .next t := by
  unfold execExtend
  split <;> exact ⟨_, rfl⟩

theorem exec_frame_next {i : Instr} {r : Request} (hi : i.request = some r) (s : State) :
    ∃ t, exec i s = .next t := by
  by_cases hext : r.cmd = .extend
  · obtain ⟨arg, rfl⟩ := request_of_extend hi hext
    exact execExtend_next r.port arg s
  · obtain ⟨body, hbody⟩ := exists_body hi hext
    rw [hbody]
    exact takeFrame_next _ _ _ _

theorem runFrame_next (i : Instr) (s : State) : ∃ t, runFrame i s = .next t := by
  cases hi : i.request with
  | some r => rw [← exec_eq_runFrame hi]; exact exec_frame_next hi s
  | none => exact ⟨s, by cases i <;> first | rfl | cases hi⟩

theorem State.judge_next (s : State) (p : Port) : ∃ t, s.judge p = .next t := by
  unfold State.judge
  split
  · exact ⟨_, rfl⟩
  · split
    · exact ⟨_, rfl⟩
    · exact runFrame_next _ _

/-- Settles O3: a command frame ends as its block answers, a frame from its bits is judged, and the
events of the part have their effect. -/
theorem everyCommandCompletes : Obligations.EveryCommandCompletes := by
  intro i s
  have expiry (b : Bool) (u : State) :
      ∃ t, (if b then .next u else .next s : Host.Outcome State Fault Refusal) = .next t := by
    cases b <;> exact ⟨_, rfl⟩
  cases hi : i.request with
  | some r => exact exec_frame_next hi s
  | none =>
    cases i with
    | selectAssertion p => exact ⟨_, rfl⟩
    | fullReset cause => exact ⟨_, rfl⟩
    | loadLinkBlock first more => exact ⟨_, rfl⟩
    | frameRefused p bits =>
      change ∃ t, execFrameRefused p bits s = .next t
      unfold execFrameRefused
      split
      · exact ⟨_, rfl⟩
      · exact State.judge_next _ _
    | closeTimerExpiry h => exact expiry _ _
    | sampleTimerExpiry h => exact expiry _ _
    | releaseTimerExpiry h => exact expiry _ _
    | parkTimerExpiry h => exact expiry _ _
    | preflightBlockRead => exact expiry _ _
    | stripeSendComplete =>
      change ∃ t, execStripeSendComplete s = .next t
      unfold execStripeSendComplete
      split <;> exact ⟨_, rfl⟩
    | _ => cases hi

/-! ## The tick of an idle step (log 2) -/

section
variable {s u : State} {h : HeadId} {k : TimerKind}

theorem State.expireIfDue_of_not_due (hdue : ∀ k, (s.heads.get h).timer ≠ some ⟨k, 0⟩) :
    s.expireIfDue h = s := by
  unfold State.expireIfDue
  split
  · rename_i t ht
    exact if_neg fun hleft => hdue t.kind (by rw [ht, ← hleft])
  · rfl

theorem State.expireIfDue_of_due (hdue : (s.heads.get h).timer = some ⟨k, 0⟩) :
    s.expireIfDue h = s.expire h k := by
  simp [State.expireIfDue, hdue]

/-- The command row of the expiry of a head's timer of a kind. -/
def expiryRow (h : HeadId) : TimerKind → Instr
  | .close => .closeTimerExpiry h
  | .sample => .sampleTimerExpiry h
  | .release => .releaseTimerExpiry h
  | .park => .parkTimerExpiry h

/-- The row of a timer's kind carries out its expiry while that timer runs. -/
theorem exec_expiryRow_of_running {n : Nat} (hrun : (s.heads.get h).timer = some ⟨k, n⟩) :
    exec (expiryRow h k) s = .next (s.expire h k) := by
  have hruns : (s.heads.get h).runs k = true := by simp [Head.runs, hrun]
  cases k <;> exact if_pos hruns

end

/-- Settles O2: the tick counts both heads' timers down and then lets each head's expire where it is
due, as its row does. -/
theorem idleStepCountsTimers : Obligations.IdleStepCountsTimers := by
  intro s hidle counted
  have hstep : step s = .next ((counted.expireIfDue .h0).expireIfDue .h1) := by
    rw [step, hidle]; rfl
  refine ⟨fun hlong => ?_, ?_⟩
  · have hnot (h : HeadId) (k : TimerKind) : (counted.heads.get h).timer ≠ some ⟨k, 0⟩ := by
      have htimer : (counted.heads.get h).timer =
          (s.heads.get h).timer.map fun t => ⟨t.kind, t.left - 1⟩ := by simp [counted]
      rw [htimer]
      intro hdue
      obtain ⟨t, ht, hcount⟩ := Option.map_eq_some_iff.mp hdue
      have hleft := congrArg Timer.left hcount
      have := hlong h t ht
      dsimp only at hleft
      omega
    rw [hstep, State.expireIfDue_of_not_due (hnot .h0), State.expireIfDue_of_not_due (hnot .h1)]
  · have hexpires (h : HeadId) (u : State) :
        (∀ k, (u.heads.get h).timer = some ⟨k, 0⟩ →
          exec (expiryRow h k) u = .next (u.expireIfDue h)) ∧
        ((∀ k, (u.heads.get h).timer ≠ some ⟨k, 0⟩) → u.expireIfDue h = u) :=
      ⟨fun k hdue => by rw [exec_expiryRow_of_running hdue, State.expireIfDue_of_due hdue],
        State.expireIfDue_of_not_due⟩
    have hrow (h : HeadId) (k : TimerKind) : expiryRow h k = (match k with
        | .close => .closeTimerExpiry h
        | .sample => .sampleTimerExpiry h
        | .release => .releaseTimerExpiry h
        | .park => .parkTimerExpiry h) := by cases k <;> rfl
    simp only [hrow] at hexpires
    exact ⟨_, _, hexpires .h0 counted, hexpires .h1 _, hstep⟩

/-! ## Frames that begin with their own select assertion (log 3) -/

section
variable {s s1 : State} {p : Port} {i : Instr} {r : Request}

theorem State.openFrame_of_idle (hidle : (s.ports.get p).receiver = none) :
    s.openFrame p =
      if (s.ports.get p).selectAsserted then none else some (s.assertSelect p) := by
  simp only [State.openFrame, hidle]

theorem State.assertSelect_receiver :
    ((s.assertSelect p).ports.get p).receiver = some Receiver.start := by
  simp [State.assertSelect]

theorem State.openFrame_assertSelect : (s.assertSelect p).openFrame p = some (s.assertSelect p) :=
  State.openFrame_of_receiving (by rw [State.assertSelect_receiver]; rfl)

/-- A command frame depends on the state in which it is judged alone. -/
theorem exec_congr_openFrame (hi : i.request = some r)
    (hopen : s.openFrame r.port = s1.openFrame r.port) (hsome : (s.openFrame r.port).isSome) :
    exec i s = exec i s1 := by
  obtain ⟨u, hu⟩ := Option.isSome_iff_exists.mp hsome
  by_cases hext : r.cmd = .extend
  · obtain ⟨arg, rfl⟩ := request_of_extend hi hext
    change execExtend r.port arg s = execExtend r.port arg s1
    simp only [execExtend, ← hopen, hu]
  · obtain ⟨body, hbody⟩ := exists_body hi hext
    simp only [hbody, takeFrame, ← hopen, hu]

/-- A release of select that ends no frame takes nothing. -/
theorem exec_of_openFrame_none (hi : i.request = some r) (hopen : s.openFrame r.port = none) :
    exec i s = .next (s.releaseSelect r.port) := by
  by_cases hext : r.cmd = .extend
  · obtain ⟨arg, rfl⟩ := request_of_extend hi hext
    change execExtend r.port arg s = _
    simp only [execExtend, hopen]
  · obtain ⟨body, hbody⟩ := exists_body hi hext
    simp only [hbody, takeFrame, hopen]

theorem State.releaseSelect_of_idle (hidle : (s.ports.get p).receiver = none) :
    s.releaseSelect p = s.modifyPort p fun ps => { ps with selectAsserted := false } :=
  State.modifyPort_congr (by simp [← hidle])

theorem Instr.request_ofFields (c : Cmd) (p : Port) (sFlag : Bool) (sel : Selector) (arg : Arg) :
    ∃ r, (Instr.ofFields c p sFlag sel arg).request = some r := by
  cases c <;> cases sFlag <;> exact ⟨_, rfl⟩

/-- What a frame carries is a command of a frame. -/
theorem judgeFrame_ok_request {x : Receiver} (hjudge : judgeFrame p x = .ok i) :
    ∃ r, i.request = some r := by
  unfold judgeFrame decodeFrame at hjudge
  split at hjudge
  · cases hjudge
  · split at hjudge
    · cases hjudge
    · split at hjudge
      · cases hjudge
      · split at hjudge
        · cases hjudge
          exact Instr.request_ofFields _ _ _ _ _
        · cases hjudge

theorem State.shiftIn_of_start {bits : List Bool} (hstart : (s.ports.get p).receiver = some ⟨0, 0⟩) :
    s.shiftIn p bits = s.modifyPort p fun ps =>
      { ps with
        receiver := some (receive bits)
        driven := ps.driven ++ (List.range' ps.driven.length bits.length).map (replyBit ps.sent) } :=
  State.modifyPort_congr (by simp [PortState.clock_foldl, hstart, receive, Receiver.start])

theorem State.refuseFrame_driveReply {why : RefusalReason} :
    (s.driveReply p).refuseFrame p why = s.modifyPort p fun ps =>
      { ps with selectAsserted := false, receiver := none, driven := replyBits ps.sent,
                reply := ⟨true, why, .none, 0⟩ } := by
  simp only [State.driveReply, State.refuseFrame, State.endFrame, State.modifyPort_modifyPort]

/-- A refused frame after its own select assertion: the reply latched is driven over its edges. -/
theorem State.refuseFrame_assertSelect {bits : List Bool} {why : RefusalReason} :
    ((s.assertSelect p).shiftIn p bits).refuseFrame p why =
      s.modifyPort p fun ps =>
        { ps with
          selectAsserted := false
          receiver := none
          sent := some (replyFrame (s.ports.get p).reply (s.attention p) s.commissioningOpen)
          driven := (List.range bits.length).map
            (replyBit (some (replyFrame (s.ports.get p).reply (s.attention p) s.commissioningOpen)))
          reply := ⟨true, why, .none, 0⟩ } := by
  rw [State.refuseFrame_shiftIn, State.assertSelect, State.modifyPort_modifyPort]
  exact State.modifyPort_congr (by simp [State.attention, List.range_eq_range'])

end

/-- Settles O7: a frame's bits are judged on the state that they leave; an idle port's frame is judged
after its own assertion, or takes nothing; and a wrong role is refused before any block. -/
theorem framesAreTakenOrRefused : Obligations.FramesAreTakenOrRefused := by
  refine ⟨?taken, ?begins, ?refused, ?role⟩
  case taken =>
    intro p bits s i hstart hjudge
    obtain ⟨r, hi⟩ := judgeFrame_ok_request hjudge
    have hrecv : s.inFrame p := by simp [State.inFrame, hstart]
    rw [exec_frameRefused_receiving hrecv, State.judge, State.shiftIn_receiver hstart]
    simp only [hjudge, exec_eq_runFrame hi, State.shiftIn_of_start hstart]
  case begins =>
    intro i r s hi hidle
    have hopen := State.openFrame_of_idle hidle
    refine ⟨fun hreleased => ?_, fun hasserted => ?_⟩
    · rw [hreleased, if_neg (by simp)] at hopen
      exact exec_congr_openFrame hi (hopen.trans State.openFrame_assertSelect.symm) (by simp [hopen])
    · rw [hasserted, if_pos rfl] at hopen
      rw [exec_of_openFrame_none hi hopen, State.releaseSelect_of_idle hidle]
  case refused =>
    intro p bits s hidle
    have hopen := State.openFrame_of_idle hidle
    refine ⟨fun hreleased => ?_, fun hasserted => ?_⟩
    · rw [hreleased, if_neg (by simp)] at hopen
      have hbegins : exec (.frameRefused p bits) s = exec (.frameRefused p bits) (s.assertSelect p) := by
        change execFrameRefused p bits s = execFrameRefused p bits (s.assertSelect p)
        simp only [execFrameRefused, hopen, State.openFrame_assertSelect]
      refine ⟨hbegins, fun why hjudge => ?_⟩
      dsimp only
      rw [hbegins, exec_frameRefused_of_refused State.assertSelect_receiver hjudge,
        State.refuseFrame_assertSelect]
    · rw [hasserted, if_pos rfl] at hopen
      change execFrameRefused p bits s = _
      simp only [execFrameRefused, hopen, State.releaseSelect_of_idle hidle]
  case role =>
    intro i r s hi hrecv hrole
    have hrefused : r.cmd.acceptedOn r.port = false := by simpa [Instr.roleOk, hi] using hrole
    have hext : r.cmd ≠ .extend := by
      intro he
      rw [he] at hrefused
      cases hrefused
    obtain ⟨body, hbody⟩ := exists_body hi hext
    rw [hbody, takeFrame_role hrecv hrefused, State.refuseFrame_driveReply]

/-! ## The reply that a select assertion latches (R168, R171) -/

/-- The least number that passes a test. -/
theorem find?_finRange_eq_some_iff {n : Nat} {p : Fin n → Bool} {k : Fin n} :
    (List.finRange n).find? p = some k ↔ p k = true ∧ ∀ j < k, p j = false := by
  rw [List.find?_eq_some_iff_getElem]
  refine and_congr_right fun _ => ⟨?_, fun hbefore => ?_⟩
  · rintro ⟨i, hi, hk, hbefore⟩ j hj
    have hik : i = k.val := by simpa using congrArg Fin.val hk
    simpa using hbefore j.val (by omega)
  · exact ⟨k.val, by simp, by simp, fun j hj => by
      simpa using hbefore ⟨j, by omega⟩ hj⟩

theorem PortState.attention_iff {ps : PortState} :
    ps.attention = true ↔
      ∃ k : Fin 8, (ps.notices.get k).pending = true ∧ ps.mask.getLsbD k.val = true := by
  simp [PortState.attention, PortState.firstNews, List.find?_isSome, PortState.newsAt]

theorem State.attention_iff {s : State} {p : Port} :
    s.attention p = true ↔ ∃ k : Fin 8, ((s.ports.get p).notices.get k).pending = true ∧
      (s.ports.get p).mask.getLsbD k.val = true :=
  PortState.attention_iff

section
variable (r : Reply) (atn co : Bool)

/-- The first 48 bits of a reply. -/
def replyBody : BitVec 48 := (statusByte r atn co ++ r.result.code ++ r.data : BitVec (8 + 8 + 32))

theorem replyFrame_extract {start len : Nat} :
    (replyFrame r atn co).extractLsb' (8 + start) len = (replyBody r atn co).extractLsb' start len :=
  extractLsb'_append_check _ _

theorem replyBody_status {start len : Nat} :
    (replyBody r atn co).extractLsb' (40 + start) len =
      (statusByte r atn co).extractLsb' start len := by
  refine (BitVec.extractLsb'_append_eq_of_le (by omega)).trans ?_
  refine (BitVec.extractLsb'_append_eq_of_le (by omega)).trans ?_
  congr 1
  omega

/-- A field of the status byte stands 48 bits above its place in it. -/
theorem replyFrame_status {start len : Nat} :
    (replyFrame r atn co).extractLsb' (48 + start) len =
      (statusByte r atn co).extractLsb' start len := by
  have h := replyFrame_extract r atn co (start := 40 + start) (len := len)
  rw [replyBody_status, ← Nat.add_assoc] at h
  exact h

theorem replyFrame_status_bit {i : Nat} :
    (replyFrame r atn co).getLsbD (48 + i) = (statusByte r atn co).getLsbD i := by
  have h := congrArg (fun x => x.getLsbD 0) (replyFrame_status r atn co (start := i) (len := 1))
  simpa using h

theorem replyFrame_result : (replyFrame r atn co).extractLsb' 40 8 = r.result.code := by
  refine (replyFrame_extract r atn co (start := 32)).trans ?_
  refine (BitVec.extractLsb'_append_eq_of_le (by decide)).trans ?_
  exact BitVec.extractLsb'_append_eq_right

theorem replyFrame_data : (replyFrame r atn co).extractLsb' 8 32 = r.data :=
  (replyFrame_extract r atn co (start := 0)).trans BitVec.extractLsb'_append_eq_right

theorem replyFrame_check :
    frameCheck (replyFrame r atn co) = checkCode (frameBody (replyFrame r atn co)) := by
  unfold replyFrame
  rw [frameCheck_append, frameBody_append]

theorem statusByte_fields :
    (statusByte r atn co).getLsbD 7 = r.fr ∧
      (statusByte r atn co).extractLsb' 4 3 = refusalCode r.reason ∧
      (statusByte r atn co).getLsbD 3 = atn ∧ (statusByte r atn co).getLsbD 2 = co ∧
      (statusByte r atn co).extractLsb' 0 2 = 0 := by
  unfold statusByte
  generalize r.fr = fr, refusalCode r.reason = reason
  revert fr reason atn co
  decide +kernel

end

theorem replyBit_of_lt (f : BitVec 56) {k : Nat} (hk : k < 56) :
    replyBit (some f) k = f.getLsbD (55 - k) := by
  simp [replyBit, hk]

theorem replyBit_of_ge (f : BitVec 56) {k : Nat} (hk : 56 ≤ k) : replyBit (some f) k = false := by
  simp [replyBit, hk]

/-- Settles O8: the assertion is one write of its port, a taken frame drives the whole reply and a
refused one a bit for each edge, and the fields of a reply are read off its three parts. -/
theorem selectAssertionLatchesTheReply : Obligations.SelectAssertionLatchesTheReply := by
  refine ⟨?latch, fun f k => ⟨replyBit_of_lt f, replyBit_of_ge f⟩, ?nop, ?refused, ?layout⟩
  case latch =>
    refine fun p s => ⟨(s.ports.get p).attention, PortState.attention_iff, ?_⟩
    change Host.Outcome.next (s.assertSelect p) = _
    rw [State.assertSelect, State.modifyPort_congr]
    rfl
  case nop =>
    intro p s hrecv
    refine ⟨_, takeFrame_taken hrecv rfl, ?_⟩
    simp only [bodyNop, State.finish_ports, PerPort.get_modify_self, replyBits]
  case refused =>
    intro p bits s why hstart hdriven hjudge
    refine ⟨_, exec_frameRefused_of_refused hstart hjudge, ?_⟩
    rw [State.refuseFrame_shiftIn]
    simp [hdriven, List.range_eq_range']
  case layout =>
    intro r atn co
    obtain ⟨hfr, hreason, hatn, hco, hzero⟩ := statusByte_fields r atn co
    exact ⟨(replyFrame_status_bit r atn co).trans hfr, (replyFrame_status r atn co).trans hreason,
      (replyFrame_status_bit r atn co).trans hatn, (replyFrame_status_bit r atn co).trans hco,
      (replyFrame_status r atn co (start := 0)).trans hzero, replyFrame_result r atn co,
      replyFrame_data r atn co, replyFrame_check r atn co⟩

/-! ## The commands of every port -/

/-- Settles O9: a taken frame ends with the answer of its block and no extension word. -/
theorem extensionWordIsUsedOnce : Obligations.ExtensionWordIsUsedOnce := by
  intro i r s hi hrecv hrole hext
  have haccepted : r.cmd.acceptedOn r.port = true := by simpa [Instr.roleOk, hi] using hrole
  obtain ⟨body, hbody⟩ := exists_body hi hext
  exact ⟨_, (hbody s).trans (takeFrame_taken hrecv haccepted), by simp, by simp, by simp, by simp⟩

theorem maskAnswer_eq (s : State) (p : Port) :
    maskAnswer s p = ⟨.ok, (s.ports.get p).mask.setWidth 32⟩ := by
  rw [maskAnswer, answer, packWord_singleton (s.ports.get p).mask.isLt, BitVec.ofNat_toNat]

theorem exec_extend_receiving {s : State} {p : Port} {arg : Arg} (hrecv : s.inFrame p) :
    exec (.extend p arg) s = .next (s.finish p ⟨.ok, arg⟩ (some arg)) := by
  change execExtend p arg s = _
  simp only [execExtend, State.openFrame_of_receiving hrecv]

/-- Settles O11: each block answers from the port's own record. -/
theorem nopExtendAndNoticeMask : Obligations.NopExtendAndNoticeMask := by
  refine ⟨fun p s hrecv => ⟨takeFrame_taken hrecv rfl, fun arg => exec_extend_receiving hrecv⟩,
    fun p s hrecv => ⟨?_, fun arg => ?_⟩⟩
  · rw [← maskAnswer_eq]
    exact takeFrame_taken hrecv rfl
  · have htaken : exec (.noticeMaskWrite p arg) s = .next
        ((bodyNoticeMaskWrite p arg s).2.finish p (bodyNoticeMaskWrite p arg s).1 none) :=
      takeFrame_taken hrecv rfl
    rw [htaken, bodyNoticeMaskWrite, maskAnswer_eq]
    cases p <;> rfl

/-! ## FETCH_NOTICE (R178) -/

section
variable {s : State} {p : Port} {k : Fin 8}

theorem PortState.firstNews_eq_none_iff {ps : PortState} :
    ps.firstNews = none ↔
      ∀ k : Fin 8, (ps.notices.get k).pending = true → ps.mask.getLsbD k.val = false := by
  simp [PortState.firstNews, PortState.newsAt]

theorem PortState.firstNews_eq_some_iff {ps : PortState} :
    ps.firstNews = some k ↔
      ((ps.notices.get k).pending = true ∧ ps.mask.getLsbD k.val = true) ∧
        ∀ j < k, (ps.notices.get j).pending = true → ps.mask.getLsbD j.val = false := by
  simp [PortState.firstNews, find?_finRange_eq_some_iff, PortState.newsAt]

theorem State.staysPending_iff :
    s.staysPending p k = true ↔
      p = .press ∧ ((k = 0 ∧ s.heads.h0.mailbox ≠ none) ∨ (k = 1 ∧ s.heads.h1.mailbox ≠ none)) := by
  simp [State.staysPending, Option.isSome_iff_ne_none]

/-- The detail in bits 27..0 and the kind in bits 31..28 (section 11.4). -/
theorem packWord_notice (d : BitVec 28) (k : Fin 8) :
    packWord [(28, d.toNat), (4, k.val)] = BitVec.ofNat 4 k.val ++ d := by
  have hd : d.toNat < 2 ^ 28 := d.isLt
  have hk : k.val < 8 := k.isLt
  apply BitVec.eq_of_toNat_eq
  rw [BitVec.toNat_append, Nat.shiftLeft_eq, ← Nat.mul_comm, ← Nat.two_pow_add_eq_or_of_lt hd]
  simp only [packWord, pack, BitVec.toNat_ofNat]
  omega

theorem exec_fetchNotice_taken (hrecv : s.inFrame p) :
    exec (.fetchNotice p) s =
      .next ((bodyFetchNotice p s).2.finish p (bodyFetchNotice p s).1 none) :=
  takeFrame_taken hrecv (by cases p <;> rfl)

theorem bodyFetchNotice_of_none (hnews : (s.ports.get p).firstNews = none) :
    bodyFetchNotice p s = (answer0 .none, s) := by
  simp [bodyFetchNotice, hnews]

theorem bodyFetchNotice_of_some (hnews : (s.ports.get p).firstNews = some k) :
    bodyFetchNotice p s =
      (⟨.ok, BitVec.ofNat 4 k.val ++ ((s.ports.get p).notices.get k).detail⟩,
        if s.staysPending p k then s
        else s.modifyPort p fun ps => { ps with notices := ps.notices.set k ⟨false, 0⟩ }) := by
  simp only [bodyFetchNotice, hnews, answer, packWord_notice]

end

/-- Settles O12: the kind returned is the first pending and enabled one, and it is cleared unless its
mailbox slot still holds an assignment. -/
theorem fetchNotice : Obligations.FetchNotice := by
  intro p s
  refine ⟨State.attention_iff, fun bits why hstart hjudge => ?_, fun hrecv => ⟨fun hquiet => ?_, ?_⟩⟩
  · refine ⟨_, exec_frameRefused_of_refused hstart hjudge, fun q => ?_⟩
    rw [State.refuseFrame_shiftIn]
    by_cases hq : q = p
    · subst hq; simp
    · simp [hq]
  · rw [exec_fetchNotice_taken hrecv,
      bodyFetchNotice_of_none (PortState.firstNews_eq_none_iff.mpr hquiet)]
    rfl
  · intro k hpending henabled hfirst
    have hbody := bodyFetchNotice_of_some (p := p) (s := s)
      (PortState.firstNews_eq_some_iff.mpr ⟨⟨hpending, henabled⟩, hfirst⟩)
    refine ⟨fun hstays => ?_, fun hgoes => ?_⟩
    · rw [exec_fetchNotice_taken hrecv, hbody, if_pos (State.staysPending_iff.mpr hstays)]
    · rw [exec_fetchNotice_taken hrecv, hbody, if_neg (mt State.staysPending_iff.mp hgoes)]

end Sys2Proof.Machine
end

section
/-! PROOF. The Order Book's commands: POST_LINE's effect (R6), AMEND_LINE, HOLD_LINE and RETIRE_LINE (R7,
R9, R11), and READ_LINE (R12). -/

namespace Sys2Proof.Machine

open Sys2Proof

/-- A frame in progress whose block answers `a` and leaves `u`. -/
theorem takeFrame_answers {c : Cmd} {p : Port} {body : Body} {s u : State} {a : Answer}
    (hrecv : s.inFrame p) (haccepted : c.acceptedOn p = true) (hbody : body s = (a, u)) :
    takeFrame c p body s = .next (u.finish p a none) := by
  rw [takeFrame_taken hrecv haccepted, hbody]

/-! ## Packed data (R182) -/

theorem packWord_pair {w v x u : Nat} (hv : v < 2 ^ w) (hu : u < 2 ^ x) :
    packWord [(w, v), (x, u)] = BitVec.ofNat 32 (v + 2 ^ w * u) := by
  simp [packWord, pack, Nat.mod_eq_of_lt hv, Nat.mod_eq_of_lt hu]

/-- The value of a field is below the power of its width. -/
theorem bitsAt_lt {n : Nat} (x : BitVec n) (lo w : Nat) : bitsAt x lo w < 2 ^ w :=
  (x.extractLsb' lo w).isLt

/-! ## POST_LINE (R6) -/

section
variable {sel : Selector} {arg : Arg} {s : State} {w : Word} {i : LineIx}

/-- The lowest FREE line is the one that the search of the table finds. -/
theorem Table.findIx_eq_some_iff {α : Type} {n : Nat} {t : Table α n} {p : α → Bool} {k : Fin n} :
    t.findIx p = some k ↔ p (t.get k) = true ∧ ∀ j < k, p (t.get j) = false :=
  find?_finRange_eq_some_iff

theorem bodyPostLine_of_passed (hext : s.ext .order = some w) (href : arg ≠ 0)
    (hart : (s.artworks.get (lineSpec w).artwork).state ≠ .free)
    (hkey : s.hasLine arg (sel.extractLsb' 0 3) = false)
    (hline : s.lines.findIx (fun l => l.state == .free) = some i) :
    bodyPostLine sel arg s =
      (answer (if bitsAt sel 3 4 = 0 then .clamped else .ok) [(8, i.val), (4, max (bitsAt sel 3 4) 1)],
        s.postLine i (newLine (lineSpec w) arg (sel.extractLsb' 0 3) (max (bitsAt sel 3 4) 1))) := by
  simp only [bodyPostLine, hext, if_neg href, if_neg hart, hkey, hline]
  rfl

/-- Settles O14: the line found is the lowest FREE one, and the quantity 0 is adopted as 1. -/
theorem postLineFillsTheLowestFreeLine : Obligations.PostLineFillsTheLowestFreeLine := by
  intro sel arg s w i hrecv hext href hart hkey hfree hlowest q wanted
  have hq : bitsAt sel 3 4 < 16 := bitsAt_lt sel 3 4
  have hwanted : max (bitsAt sel 3 4) 1 = wanted := by
    change max q 1 = if q = 0 then 1 else q
    split <;> omega
  have hline : s.lines.findIx (fun l => l.state == .free) = some i :=
    Table.findIx_eq_some_iff.mpr ⟨by simp [hfree], fun j hj => by simp [hlowest j hj]⟩
  have hkey' : s.hasLine arg (sel.extractLsb' 0 3) = false :=
    Bool.eq_false_iff.mpr fun h => by
      obtain ⟨j, hj⟩ := State.hasLine_iff.mp h
      exact hkey j hj
  have hdata : packWord [(8, i.val), (4, wanted)] = BitVec.ofNat 32 (i.val + 256 * wanted) :=
    packWord_pair i.isLt (by omega)
  have hbody := bodyPostLine_of_passed hext href hart hkey' hline
  rw [hwanted, answer, hdata] at hbody
  exact takeFrame_answers hrecv rfl hbody

end

/-! ## AMEND_LINE, HOLD_LINE and RETIRE_LINE (R7, R9, R11) -/

section
variable {arg : Arg} {s : State}

/-- A change of a line, given the line that it leaves. -/
theorem State.updateLine_of_rederive {i : LineIx} {f : OrderLine → OrderLine} {new : OrderLine}
    (hnew : (f (s.lines.get i)).rederive = new) :
    s.updateLine i f =
      if new.state = .done ∧ (s.lines.get i).state ≠ .done then
        ({ s with lines := s.lines.set i new }).raise .lineDone
          [(8, i.val), (3, new.lineNo.toNat), (1, 0), (4, new.finished)]
      else { s with lines := s.lines.set i new } := by
  subst hnew; rfl

/-- The state of a line that is neither FREE nor CANCELLED, where its counts fit its quantity (R2). -/
theorem OrderLine.derived_of_fits {l : OrderLine} (hfree : l.state ≠ .free)
    (hcancelled : l.state ≠ .cancelled) (hfits : l.bound + l.finished ≤ l.wanted) :
    l.derived =
      if l.bound + l.finished < l.wanted then .open_ else if 0 < l.bound then .full else .done := by
  unfold OrderLine.derived
  split
  · exact absurd ‹_› hfree
  · exact absurd ‹_› hcancelled
  · by_cases hmore : l.bound + l.finished < l.wanted
    · simp only [if_pos hmore]
    · by_cases hbound : 0 < l.bound
      · simp only [if_neg hmore, if_pos hbound]
        rw [if_pos ⟨by omega, hbound⟩]
      · rw [if_neg hmore, if_neg (by tauto), if_pos ⟨by omega, by omega⟩, if_neg hmore,
          if_neg hbound]

theorem bodyAmendLine_of_free (hline : (s.lines.get (lineAt arg 0)).state = .free) :
    bodyAmendLine arg s = (answer0 .notFound, s) := by
  simp only [bodyAmendLine, hline]

theorem bodyAmendLine_of_cancelled (hline : (s.lines.get (lineAt arg 0)).state = .cancelled) :
    bodyAmendLine arg s = (answer0 .badState, s) := by
  simp only [bodyAmendLine, hline]

theorem bodyAmendLine_of_live {w : Nat} (hfree : (s.lines.get (lineAt arg 0)).state ≠ .free)
    (hcancelled : (s.lines.get (lineAt arg 0)).state ≠ .cancelled)
    (hw : clamp (max ((s.lines.get (lineAt arg 0)).bound + (s.lines.get (lineAt arg 0)).finished) 1)
      15 (bitsAt arg 8 8) = w) :
    bodyAmendLine arg s =
      (answer (if w = bitsAt arg 8 8 then .ok else .clamped) [(4, w)],
        s.updateLine (lineAt arg 0) fun l => { l with wanted := w }) := by
  subst hw
  unfold bodyAmendLine
  dsimp only
  split
  · exact absurd ‹_› hfree
  · exact absurd ‹_› hcancelled
  · rfl

theorem bodyRetireLine_of_done (hline : (s.lines.get (lineAt arg 0)).state = .done ∨
      (s.lines.get (lineAt arg 0)).state = .cancelled)
    (hbound : (s.lines.get (lineAt arg 0)).bound = 0) :
    bodyRetireLine arg s = (answer0 .ok, s.retireLine (lineAt arg 0)) := by
  rcases hline with h | h <;> simp only [bodyRetireLine, h, if_pos hbound]

theorem bodyRetireLine_of_in_use (hline : (s.lines.get (lineAt arg 0)).state = .cancelled)
    (hbound : (s.lines.get (lineAt arg 0)).bound ≠ 0) :
    bodyRetireLine arg s = (answer0 .inUse, s) := by
  simp only [bodyRetireLine, hline, if_neg hbound]

theorem bodyRetireLine_of_live (hline : (s.lines.get (lineAt arg 0)).state = .free ∨
      (s.lines.get (lineAt arg 0)).state = .open_ ∨ (s.lines.get (lineAt arg 0)).state = .full) :
    bodyRetireLine arg s = (answer0 .badState, s) := by
  rcases hline with h | h | h <;> simp only [bodyRetireLine, h]

end

/-- Settles O15: the quantity adopted is never below the counts, so that the state follows from R2's
rows; the held flag and the retirement are one write each. -/
theorem amendHoldAndRetireLine : Obligations.AmendHoldAndRetireLine := by
  constructor
  · intro arg s hrecv i l q
    refine ⟨fun hline => takeFrame_answers hrecv rfl (bodyAmendLine_of_free hline),
      fun hline => takeFrame_answers hrecv rfl (bodyAmendLine_of_cancelled hline), ?live⟩
    case live =>
      intro hfree hcancelled hcounts w st u v
      have hw : l.bound + l.finished ≤ w ∧ w ≤ 15 := by
        have hmem := clamp_mem (lo := max (l.bound + l.finished) 1) (hi := 15) (v := q) (by omega)
        exact ⟨by omega, hmem.2⟩
      have hst : ({ l with wanted := w } : OrderLine).derived = st :=
        OrderLine.derived_of_fits (l := { l with wanted := w }) hfree hcancelled hw.1
      have hnew : ({ l with wanted := w } : OrderLine).rederive = { l with wanted := w, state := st } := by
        rw [OrderLine.rederive, hst]
      have hupdate : s.updateLine (lineAt arg 0) (fun l => { l with wanted := w }) = v :=
        State.updateLine_of_rederive (f := fun l => { l with wanted := w }) hnew
      have hbody := bodyAmendLine_of_live (w := w) hfree hcancelled rfl
      rw [answer, packWord_singleton (by omega), hupdate] at hbody
      exact takeFrame_answers hrecv rfl hbody
  · intro arg s hrecv i l
    exact ⟨fun hline => takeFrame_answers hrecv rfl (if_pos hline),
      fun hline => takeFrame_answers hrecv rfl (if_neg hline),
      fun hline hbound => takeFrame_answers hrecv rfl (bodyRetireLine_of_done hline hbound),
      fun hline hbound => takeFrame_answers hrecv rfl (bodyRetireLine_of_in_use hline hbound),
      fun hline => takeFrame_answers hrecv rfl (bodyRetireLine_of_live hline)⟩

/-! ## READ_LINE (R12) -/

section
variable {sel : Selector} {arg : Arg} {s : State}

theorem bodyReadLine_of_age {j : LineIx} (hsel : sel.toNat = 4)
    (hpos : s.age[bitsAt arg 0 8]? = some j) :
    bodyReadLine sel arg s = (⟨.ok, groupWord arg [(8, j.val), (9, s.age.length)]⟩, s) := by
  simp only [bodyReadLine, if_pos hsel, hpos]

theorem bodyReadLine_of_age_end (hsel : sel.toNat = 4) (hpos : s.age[bitsAt arg 0 8]? = none) :
    bodyReadLine sel arg s = (⟨.notFound, groupWord arg [(9, s.age.length)]⟩, s) := by
  simp only [bodyReadLine, if_pos hsel, hpos]

theorem bodyReadLine_of_free (hsel : sel.toNat ≠ 4)
    (hline : (s.lines.get (lineAt arg 0)).state = .free) :
    bodyReadLine sel arg s = (answer0 .notFound, s) := by
  simp only [bodyReadLine, if_neg hsel, if_pos hline]
  split <;> rfl

theorem bodyReadLine_of_no_group (hsel : sel.toNat ≠ 4)
    (hgroup : lineGroup (s.lines.get (lineAt arg 0)) sel.toNat = none) :
    bodyReadLine sel arg s = (answer0 .notFound, s) := by
  simp only [bodyReadLine, if_neg hsel, hgroup]

theorem bodyReadLine_of_group {fs : List Field} (hsel : sel.toNat ≠ 4)
    (hline : (s.lines.get (lineAt arg 0)).state ≠ .free)
    (hgroup : lineGroup (s.lines.get (lineAt arg 0)) sel.toNat = some fs) :
    bodyReadLine sel arg s = (⟨.ok, groupWord arg fs⟩, s) := by
  simp only [bodyReadLine, if_neg hsel, hgroup, if_neg hline]

end

theorem lineGroup_eq_none {l : OrderLine} {n : Nat} (hn : 4 < n) : lineGroup l n = none := by
  match n, hn with
  | _ + 5, _ => rfl

/-- Settles O17: the selector names AGE, one of the four groups of a line, or none. -/
theorem readLine : Obligations.ReadLine := by
  intro sel arg s hrecv i l pos answers
  have answered {a : Answer} (hbody : bodyReadLine sel arg s = (a, s)) : answers a :=
    takeFrame_answers hrecv rfl hbody
  have hage : sel ≠ 4 → sel.toNat ≠ 4 := fun hsel h => hsel (BitVec.eq_of_toNat_eq h)
  refine ⟨fun hsel j hpos => ?_, fun hsel hpos => ?_, fun hsel hline => ?_, fun hsel => ?_,
    fun hline => ⟨fun hsel => ?_, fun hsel => ?_, fun hsel => ?_, fun hsel => ?_⟩⟩
  · exact answered (bodyReadLine_of_age (hsel ▸ rfl) hpos)
  · exact answered (bodyReadLine_of_age_end (hsel ▸ rfl) (List.getElem?_eq_none hpos))
  · exact answered (bodyReadLine_of_free (hage hsel) hline)
  · exact answered (bodyReadLine_of_no_group (by omega) (lineGroup_eq_none hsel))
  all_goals
    subst hsel
    exact answered (bodyReadLine_of_group (by decide) hline rfl)

end Sys2Proof.Machine
end

section
/-! PROOF. The Garment Matcher: the automatic path of LOAD_SCAN (R18, R19, R22) and UNLOAD (R31 to R34). -/

namespace Sys2Proof.Machine

open Sys2Proof

/-! ## The search of the age list (R19) -/

section
variable {sel : Selector} {arg : Arg} {s : State} {p : PlatenIx} {i : LineIx}

theorem State.qualifies_scanOf_iff : s.qualifies (scanOf arg) i = true ↔ Qualifies s arg i := by
  simp only [State.qualifies, Bool.and_eq_true, OrderLine.wants_scanOf_iff, State.artReady_iff,
    Qualifies, beq_iff_eq, Bool.not_eq_true', and_assoc]

theorem State.qualifies_rush_iff :
    (s.qualifies (scanOf arg) i && (s.lines.get i).priority == .rush) = true ↔
      Qualifies s arg i ∧ IsRush s i := by
  rw [Bool.and_eq_true, State.qualifies_scanOf_iff, beq_iff_eq, IsRush]

/-- A search finds the element before which none passes. -/
theorem find?_append_of_first {α : Type} {q : α → Bool} {pre post : List α} {x : α} (hx : q x = true)
    (hpre : ∀ y ∈ pre, ¬ q y = true) : (pre ++ x :: post).find? q = some x :=
  List.find?_eq_some_iff_append.mpr
    ⟨hx, pre, post, rfl, fun y hy => by simp [hpre y hy]⟩

/-- The line chosen by the policy is the one that the model's searches find. -/
theorem State.autoMatch_of_chosen (hchosen : Chosen s arg i) : s.autoMatch (scanOf arg) = some i := by
  obtain ⟨pre, post, hage, hqual, hpolicy⟩ := hchosen
  have hfirst (h : ∀ j ∈ pre, ¬ Qualifies s arg j) :
      s.age.find? (s.qualifies (scanOf arg)) = some i := by
    rw [hage]
    exact find?_append_of_first (State.qualifies_scanOf_iff.mpr hqual)
      fun j hj => mt State.qualifies_scanOf_iff.mp (h j hj)
  cases hmode : s.params.matchPolicy with
  | ageOnly =>
    simp only [hmode] at hpolicy
    simp only [State.autoMatch, hmode, hfirst hpolicy]
  | rushFirst =>
    simp only [hmode] at hpolicy
    simp only [State.autoMatch, hmode]
    rcases hpolicy with ⟨hrush, hpre⟩ | ⟨hnone, hpre⟩
    · have hsearch : (s.age.find? fun j =>
          s.qualifies (scanOf arg) j && (s.lines.get j).priority == .rush) = some i := by
        rw [hage]
        exact find?_append_of_first (State.qualifies_rush_iff.mpr ⟨hqual, hrush⟩)
          fun j hj => mt State.qualifies_rush_iff.mp (hpre j hj)
      rw [hsearch]
      rfl
    · have hsearch : (s.age.find? fun j =>
          s.qualifies (scanOf arg) j && (s.lines.get j).priority == .rush) = none :=
        List.find?_eq_none.mpr fun j hj => mt State.qualifies_rush_iff.mp (hnone j hj)
      rw [hsearch, hfirst hpre]
      rfl

theorem State.autoMatch_of_none (hnone : ∀ j ∈ s.age, ¬ Qualifies s arg j) :
    s.autoMatch (scanOf arg) = none := by
  have hfirst : s.age.find? (s.qualifies (scanOf arg)) = none :=
    List.find?_eq_none.mpr fun j hj => mt State.qualifies_scanOf_iff.mp (hnone j hj)
  have hrush : (s.age.find? fun j =>
      s.qualifies (scanOf arg) j && (s.lines.get j).priority == .rush) = none :=
    List.find?_eq_none.mpr fun j hj =>
      mt State.qualifies_rush_iff.mp fun h => hnone j hj h.1
  cases hmode : s.params.matchPolicy <;> simp only [State.autoMatch, hmode, hfirst, hrush, Option.or]

theorem State.linesWanting_scanOf :
    s.linesWanting (scanOf arg) = s.lines.countIx fun l => decide (l.state ≠ .free ∧
      l.style = arg.extractLsb' 22 10 ∧ l.size = arg.extractLsb' 18 4 ∧
      l.colour = arg.extractLsb' 11 7) := by
  refine congrArg s.lines.countIx (funext fun l => Bool.eq_iff_iff.mpr ?_)
  rw [Bool.and_eq_true, OrderLine.wants_scanOf_iff, decide_eq_true_iff, bne_iff_ne]

/-! ## LOAD_SCAN's refusals (R18) -/

theorem bodyLoadScan_of_not_counted (hsel : s.params.platenCount ≤ sel.toNat) :
    bodyLoadScan sel arg s = (answer0 .notFound, s) := by
  simp only [bodyLoadScan, State.platenOf_eq_none hsel]

theorem bodyLoadScan_of_ticket (hplaten : s.platenOf sel.toNat = some p) (hticket : s.ticket p ≠ none) :
    bodyLoadScan sel arg s = (answer0 .badState, s) := by
  simp only [bodyLoadScan, hplaten, if_pos (Option.isSome_iff_ne_none.mpr hticket)]

theorem bodyLoadScan_of_placed (hplaten : s.platenOf sel.toNat = some p)
    (hzone : s.location p ≠ .loadZone) (htransit : s.location p ≠ .transit) :
    bodyLoadScan sel arg s = (answer0 .badState, s) := by
  simp only [bodyLoadScan, hplaten, if_pos (And.intro hzone htransit), ite_self]

theorem bodyLoadScan_of_no_ext (hsel : sel.toNat = p.val) (hscan : Scannable s p)
    (hext : s.ext .order = none) : bodyLoadScan sel arg s = autoScan p (scanOf arg) s := by
  obtain ⟨hcount, hticket, hloc⟩ := hscan
  have hplace : ¬ (s.location p ≠ .loadZone ∧ s.location p ≠ .transit) := by tauto
  simp only [bodyLoadScan, State.platenOf_eq_some hsel hcount, hticket, if_neg hplace, hext]
  rfl

end

/-- Settles O18: the policy's choice is what the searches of the age list find. -/
theorem loadScanAutomatic : Obligations.LoadScanAutomatic := by
  intro sel arg s hrecv
  refine ⟨fun hsel => takeFrame_answers hrecv rfl (bodyLoadScan_of_not_counted hsel),
    fun p hsel hcount => ?_⟩
  have hplaten : s.platenOf sel.toNat = some p := State.platenOf_eq_some hsel hcount
  refine ⟨fun hticket => takeFrame_answers hrecv rfl (bodyLoadScan_of_ticket hplaten hticket),
    fun hzone htransit => takeFrame_answers hrecv rfl (bodyLoadScan_of_placed hplaten hzone htransit),
    fun hscan hext => ⟨fun i hchosen hroom => takeFrame_answers hrecv rfl ?bind,
      fun hnone => takeFrame_answers hrecv rfl ?noMatch⟩⟩
  case bind =>
    obtain ⟨pre, post, -, ⟨hopen, -⟩, -⟩ := id hchosen
    rw [bodyLoadScan_of_no_ext hsel hscan hext, autoScan, State.autoMatch_of_chosen hchosen]
    exact bindAnswer_eq_afterBind p hopen hroom
  case noMatch =>
    rw [bodyLoadScan_of_no_ext hsel hscan hext, autoScan, State.autoMatch_of_none hnone,
      State.linesWanting_scanOf]

/-! ## The events of an UNLOAD (R14 to R16, R33, R34) -/

section
variable {sel : Selector} {s : State} {p : PlatenIx} {k : Ticket}

theorem State.spoil_of_good {why : SpoilReason} (hticket : s.ticket p = some k)
    (hgood : k.disposition = .good) :
    s.spoil p why =
      (s.modifyTicket p fun t => { t with disposition := .spoiled, reason := some why }).raise
        .garmentSpoiled [(6, p.val), (2, 0), (8, k.line.val), (3, reasonCode (some why))] := by
  simp only [State.spoil, hticket, if_pos hgood]

theorem State.spoil_of_not_good {why : SpoilReason} (hticket : s.ticket p = some k)
    (hgood : k.disposition ≠ .good) : s.spoil p why = s := by
  simp only [State.spoil, hticket, if_neg hgood]

/-- The state after an UNLOAD that leaves the line as `l2` (R34). -/
def unloadedTo (s : State) (p : PlatenIx) (k : Ticket) (l2 : OrderLine) : State :=
  { s with
    lines := s.lines.set k.line l2
    platens := s.platens.set p { s.platens.get p with ticket := none, location := .loadZone }
    artworks := s.artworks.modify k.artwork fun e => { e with tickets := e.tickets - 1 } }

theorem Ticket.unloadOutcome_of_finished (hgood : k.disposition = .good) (hcured : k.stage = .cured) :
    k.unloadOutcome = .finished := by
  simp only [Ticket.unloadOutcome, hgood, if_pos hcured]

theorem Ticket.unloadOutcome_of_void (hvoid : k.disposition = .void) : k.unloadOutcome = .unvoided := by
  simp only [Ticket.unloadOutcome, hvoid]

theorem Ticket.unloadOutcome_of_spoiled (hnot : ¬ (k.disposition = .good ∧ k.stage = .cured))
    (hvoid : k.disposition ≠ .void) : k.unloadOutcome = .spoiled := by
  unfold Ticket.unloadOutcome
  split
  · rename_i hgood
    exact if_neg fun hcured => hnot ⟨hgood, hcured⟩
  · rfl
  · exact absurd ‹_› hvoid

/-- A line changed into one that does not enter DONE, and the ticket removed. -/
theorem State.removeTicket_updateLine {f : OrderLine → OrderLine} {new : OrderLine}
    (hnew : (f (s.lines.get k.line)).rederive = new) (hdone : new.state ≠ .done) :
    (s.updateLine k.line f).removeTicket p k = unloadedTo s p k new := by
  rw [State.updateLine_of_ne_done (by rw [hnew]; exact hdone), hnew]
  rfl

theorem State.unloadTicket_of_finished {st : LineState} (hout : k.unloadOutcome = .finished)
    (hlive : (s.lines.get k.line).state = .open_ ∨ (s.lines.get k.line).state = .full)
    (hnew : (s.lines.get k.line).finish.rederive = { (s.lines.get k.line).finish with state := st }) :
    s.unloadTicket p k =
      if st = .done then
        (unloadedTo s p k { (s.lines.get k.line).finish with state := st }).raise .lineDone
          [(8, k.line.val), (3, (s.lines.get k.line).lineNo.toNat), (1, 0),
           (4, (s.lines.get k.line).finished + 1)]
      else unloadedTo s p k { (s.lines.get k.line).finish with state := st } := by
  have hlast : (s.lines.get k.line).state ≠ .done := by rcases hlive with h | h <;> rw [h] <;> decide
  simp only [State.unloadTicket, hout]
  rw [State.updateLine_of_rederive hnew]
  by_cases hdone : st = .done
  · rw [if_pos ⟨hdone, hlast⟩, if_pos hdone]
    rfl
  · rw [if_neg fun h => hdone h.1, if_neg hdone]
    rfl

theorem State.unloadTicket_of_unvoided (hout : k.unloadOutcome = .unvoided)
    (hcancelled : (s.lines.get k.line).state = .cancelled) :
    s.unloadTicket p k = unloadedTo s p k (s.lines.get k.line).unvoid := by
  have hnew : (s.lines.get k.line).unvoid.rederive = (s.lines.get k.line).unvoid := by
    have hderived : (s.lines.get k.line).unvoid.derived = (s.lines.get k.line).state := by
      simp only [OrderLine.derived, OrderLine.unvoid, hcancelled]
    rw [OrderLine.rederive, hderived]
    rfl
  simp only [State.unloadTicket, hout]
  exact State.removeTicket_updateLine hnew (by rw [OrderLine.unvoid, hcancelled]; decide)

/-- A spoil event: PULLED is recorded of a GOOD ticket, whose record the unload then removes. -/
theorem State.unloadTicket_of_spoiled {new : OrderLine} (hticket : s.ticket p = some k)
    (hout : k.unloadOutcome = .spoiled) (hnew : (s.lines.get k.line).spoilOne.rederive = new)
    (hdone : new.state ≠ .done) :
    s.unloadTicket p k =
      if k.disposition = .good then
        (unloadedTo s p k new).raise .garmentSpoiled [(6, p.val), (2, 0), (8, k.line.val), (3, 7)]
      else unloadedTo s p k new := by
  simp only [State.unloadTicket, hout]
  by_cases hgood : k.disposition = .good
  · rw [if_pos hgood, State.spoil_of_good hticket hgood,
      State.removeTicket_updateLine (new := new) (by exact hnew) hdone]
    have hplatens : ((s.modifyTicket p fun t =>
          { t with disposition := .spoiled, reason := some SpoilReason.pulled }).platens.modify p
            fun r => { r with ticket := none, location := .loadZone }) =
        s.platens.set p { s.platens.get p with ticket := none, location := .loadZone } := by
      simp only [State.modifyTicket, State.modifyPlaten, Table.modify_modify]
    exact congrArg (fun t => State.raise { unloadedTo s p k new with platens := t } .garmentSpoiled
      [(6, p.val), (2, 0), (8, k.line.val), (3, 7)]) hplatens
  · rw [if_neg hgood, State.spoil_of_not_good hticket hgood,
      State.removeTicket_updateLine hnew hdone]

/-! ## UNLOAD's answers -/

theorem bodyUnload_of_not_counted (hsel : s.params.platenCount ≤ sel.toNat) :
    bodyUnload sel s = (answer0 .notFound, s) := by
  simp only [bodyUnload, State.platenOf_eq_none hsel]

theorem bodyUnload_of_placed (hplaten : s.platenOf sel.toNat = some p)
    (htransit : s.location p ≠ .transit) (hzone : s.location p ≠ .loadZone) :
    bodyUnload sel s = (answer0 .badState, s) := by
  simp only [bodyUnload, hplaten, if_pos (And.intro htransit hzone)]

theorem bodyUnload_of_empty (hplaten : s.platenOf sel.toNat = some p)
    (hplace : s.location p = .transit ∨ s.location p = .loadZone) (hticket : s.ticket p = none) :
    bodyUnload sel s = (answer0 .ok, s.setLocation p .loadZone) := by
  have hstands : ¬ (s.location p ≠ .transit ∧ s.location p ≠ .loadZone) := by tauto
  simp only [bodyUnload, hplaten, if_neg hstands, hticket]
  rfl

theorem bodyUnload_of_ticket (hplaten : s.platenOf sel.toNat = some p)
    (hplace : s.location p = .transit ∨ s.location p = .loadZone) (hticket : s.ticket p = some k) :
    bodyUnload sel s =
      (answer .ok [(2, unloadCode k.unloadOutcome), (8, k.line.val), (8, k.serial)],
        s.unloadTicket p k) := by
  have hstands : ¬ (s.location p ≠ .transit ∧ s.location p ≠ .loadZone) := by tauto
  simp only [bodyUnload, hplaten, if_neg hstands, hticket]

end

/-- Settles O20: the ticket decides among finish, spoil and unvoid, and R2's rows give the line's state
from its counts. -/
theorem unload : Obligations.Unload := by
  intro sel s hrecv
  refine ⟨fun hsel => takeFrame_answers hrecv rfl (bodyUnload_of_not_counted hsel),
    fun p hsel hcount => ?_⟩
  have hplaten : s.platenOf sel.toNat = some p := State.platenOf_eq_some hsel hcount
  refine ⟨fun htransit hzone => takeFrame_answers hrecv rfl (bodyUnload_of_placed hplaten htransit hzone),
    fun hplace => ⟨fun hticket => takeFrame_answers hrecv rfl
      (bodyUnload_of_empty hplaten hplace hticket), ?_⟩⟩
  intro k hticket l off reports
  have hbody := bodyUnload_of_ticket hplaten hplace hticket
  have hlines (h : l.state = .open_ ∨ l.state = .full) : l.state ≠ .free ∧ l.state ≠ .cancelled := by
    rcases h with h | h <;> rw [h] <;> decide
  refine ⟨?finish, ?spoil, ?unvoid⟩
  case finish =>
    intro hgood hcured hlive hbound hfits st u
    have hout := Ticket.unloadOutcome_of_finished hgood hcured
    have hnew : l.finish.rederive = { l.finish with state := st } := by
      have hderived : l.finish.derived = st := by
        rw [OrderLine.derived_of_fits (l := l.finish) (hlines hlive).1 (hlines hlive).2
          (by change l.bound - 1 + (l.finished + 1) ≤ l.wanted; omega)]
        have hsum : l.finish.bound + l.finish.finished = l.bound + l.finished := by
          change l.bound - 1 + (l.finished + 1) = _
          omega
        have hleft : 0 < l.finish.bound ↔ 1 < l.bound := by
          change 0 < l.bound - 1 ↔ _
          omega
        simp only [hsum, hleft]
        rfl
      rw [OrderLine.rederive, hderived]
    rw [hout, State.unloadTicket_of_finished hout hlive hnew] at hbody
    exact takeFrame_answers hrecv rfl hbody
  case spoil =>
    intro hnot hvoid hlive hbound hfits u
    have hout := Ticket.unloadOutcome_of_spoiled hnot hvoid
    have hnew : l.spoilOne.rederive = { l.spoilOne with state := .open_ } := by
      have hderived : l.spoilOne.derived = .open_ := by
        have hroom : l.spoilOne.bound + l.spoilOne.finished < l.spoilOne.wanted := by
          change l.bound - 1 + l.finished < l.wanted
          omega
        rw [OrderLine.derived_of_fits (l := l.spoilOne) (hlines hlive).1 (hlines hlive).2 hroom.le, if_pos hroom]
      rw [OrderLine.rederive, hderived]
    rw [hout, State.unloadTicket_of_spoiled hticket hout hnew (by simp)] at hbody
    exact takeFrame_answers hrecv rfl hbody
  case unvoid =>
    intro hvoid hcancelled
    have hout := Ticket.unloadOutcome_of_void hvoid
    rw [hout, State.unloadTicket_of_unvoided hout hcancelled] at hbody
    exact takeFrame_answers hrecv rfl hbody

end Sys2Proof.Machine
end

section
/-! PROOF. The platens' stations: ARRIVE (R46 to R51) and READ_PLATEN (R53, R54). -/

namespace Sys2Proof.Machine

open Sys2Proof

section
variable {q : Port} {sel : Selector} {s u : State} {p : PlatenIx} {l : RackList}

/-! ## The places of an ARRIVE (R46, R47) -/

theorem positionIn_of_mem {c : List PlatenIx} (h : p ∈ c) : positionIn c p = c.idxOf p :=
  if_pos h

theorem positionIn_append_self {c : List PlatenIx} (h : p ∉ c) : positionIn (c ++ [p]) p = c.length := by
  rw [positionIn_of_mem (by simp), List.idxOf_append_of_notMem h]
  simp

theorem bodyArrive_of_not_counted (hsel : s.params.platenCount ≤ sel.toNat) :
    bodyArrive q sel s = (answer0 .notFound, s) := by
  simp only [bodyArrive, State.platenOf_eq_none hsel]

theorem bodyArrive_of_held (hplaten : s.platenOf sel.toNat = some p)
    (hheld : canArrive (s.location p) = false) : bodyArrive q sel s = (answer0 .badState, s) := by
  simp only [bodyArrive, hplaten, if_pos hheld]

theorem bodyArrive_of_standing (hplaten : s.platenOf sel.toNat = some p)
    (hcan : canArrive (s.location p) = true) (hstands : standsAt q (s.location p) = true) :
    bodyArrive q sel s = (standingAnswer s q p, s) := by
  simp only [bodyArrive, hplaten, hcan, hstands, Bool.true_eq_false, if_false, if_true]

theorem bodyArrive_of_moved {mark : Bool} (hplaten : s.platenOf sel.toNat = some p)
    (hcan : canArrive (s.location p) = true) (hstands : standsAt q (s.location p) = false)
    (hout : s.takeOut q p = (u, mark)) : bodyArrive q sel s = u.place q p mark := by
  simp only [bodyArrive, hplaten, hcan, hstands, Bool.true_eq_false, Bool.false_eq_true, if_false, hout]

theorem standingAnswer_rack (hloc : s.location p = .rack l) (hmem : p ∈ s.lists.get l) :
    standingAnswer s .press p =
      answer .ok [(3, listCode l + 1), (2, 0), (6, (s.lists.get l).idxOf p), (1, 0)] := by
  simp only [standingAnswer, hloc, pressAnswer, pressPlace, positionIn_of_mem hmem]
  rfl

end

/-- Settles O21: the platen's location is one that R46 refuses, or is the port's own station. -/
theorem arriveChecks : Obligations.ArriveChecks := by
  intro q sel s hq hrecv
  have haccepted : Cmd.arrive.acceptedOn q = true := by
    cases q <;> first | rfl | exact absurd rfl hq
  refine ⟨fun hsel => takeFrame_answers hrecv haccepted (bodyArrive_of_not_counted hsel),
    fun p hsel hcount => ?_⟩
  have hplaten : s.platenOf sel.toNat = some p := State.platenOf_eq_some hsel hcount
  refine ⟨fun hloc => takeFrame_answers hrecv haccepted (bodyArrive_of_held hplaten ?_),
    fun hport hloc hmem => ?atPretreat, fun hport hloc hmem => ?atPrint, fun l hport hloc hmem => ?atPress⟩
  · rcases hloc with h | ⟨bed, h⟩ | ⟨h', h⟩ <;> rw [h] <;> rfl
  case atPretreat =>
    subst hport
    have hbody := bodyArrive_of_standing (q := .pretreat) hplaten (by rw [hloc]; rfl) (by rw [hloc]; rfl)
    rw [standingAnswer, queueAnswer, positionIn_of_mem hmem] at hbody
    exact takeFrame_answers hrecv rfl hbody
  case atPrint =>
    subst hport
    have hbody := bodyArrive_of_standing (q := .print) hplaten (by rw [hloc]; rfl) (by rw [hloc]; rfl)
    rw [standingAnswer, queueAnswer, positionIn_of_mem hmem] at hbody
    exact takeFrame_answers hrecv rfl hbody
  case atPress =>
    subst hport
    have hbody := bodyArrive_of_standing (q := .press) hplaten (by rw [hloc]; rfl) (by rw [hloc]; rfl)
    rw [standingAnswer_rack hloc hmem] at hbody
    exact takeFrame_answers hrecv rfl hbody

/-! ## An ARRIVE that moves its platen (R48 to R50) -/

/-- Steps 2 and 3 of R48: the misroute counted and raised. -/
def misrouted (q : Port) (p : PlatenIx) (u : State) (code : Nat) : State :=
  (u.modifyPlaten p fun r => { r with misroutes := min 255 (r.misroutes + 1) }).raise .misroute
    [(6, p.val), (2, 0), (2, portCode q), (4, code)]

section
variable {q : Port} {sel : Selector} {s u : State} {p : PlatenIx} {l : RackList} {mark : Bool}

theorem State.takeOut_of_loose (hloc : s.location p = .loadZone ∨ s.location p = .transit) :
    s.takeOut q p = (s, false) := by
  rcases hloc with h | h <;> simp only [State.takeOut, h]

theorem State.takeOut_of_pretreatQueue (hloc : s.location p = .pretreatQueue) :
    s.takeOut q p = (misrouted q p { s with pretreatQueue := s.pretreatQueue.erase p } 2, true) := by
  simp only [State.takeOut, hloc]
  rfl

theorem State.takeOut_of_printQueue (hloc : s.location p = .printQueue) :
    s.takeOut q p = (misrouted q p { s with printQueue := s.printQueue.erase p } 4, true) := by
  simp only [State.takeOut, hloc]
  rfl

theorem State.takeOut_of_rack (hloc : s.location p = .rack l) :
    s.takeOut q p =
      (misrouted q p { s with lists := s.lists.set l ((s.lists.get l).erase p) } (7 + listCode l),
        true) := by
  simp only [State.takeOut, hloc]
  rfl

theorem State.place_pretreat (hnew : p ∉ u.pretreatQueue) :
    u.place .pretreat p mark =
      (answer .ok [(6, u.pretreatQueue.length), (6, u.pretreatQueue.length + 1), (1, mark.toNat)],
        ({ u with pretreatQueue := u.pretreatQueue ++ [p] }).setLocation p .pretreatQueue) := by
  have hpos : positionIn (u.joinPretreatQueue p).pretreatQueue p = u.pretreatQueue.length :=
    positionIn_append_self hnew
  have hlen : (u.joinPretreatQueue p).pretreatQueue.length = u.pretreatQueue.length + 1 :=
    List.length_append
  simp only [State.place, queueAnswer, hpos, hlen]
  rfl

theorem State.place_print (hnew : p ∉ u.printQueue) :
    u.place .print p mark =
      (answer .ok [(6, u.printQueue.length), (6, u.printQueue.length + 1), (1, mark.toNat)],
        ({ u with printQueue := u.printQueue ++ [p] }).setLocation p .printQueue) := by
  have hpos : positionIn (u.joinPrintQueue p).printQueue p = u.printQueue.length :=
    positionIn_append_self hnew
  have hlen : (u.joinPrintQueue p).printQueue.length = u.printQueue.length + 1 :=
    List.length_append
  simp only [State.place, queueAnswer, hpos, hlen]
  rfl

theorem State.place_press_of_list (hlist : (u.ticket p).bind Ticket.rackList = some l) :
    u.place .press p mark =
      (answer .ok ([(3, listCode l + 1)] ++ pressPlace (u.joinTail l p).grantEval p ++
          [(1, mark.toNat)]), (u.joinTail l p).grantEval) := by
  simp only [State.place, hlist]
  rfl

theorem State.place_press_of_pass (hlist : (u.ticket p).bind Ticket.rackList = none) :
    u.place .press p mark =
      (answer .pass [(3, 0), (2, 3), (6, 0), (1, mark.toNat)], u.setLocation p .transit) := by
  have hloc : (u.setLocation p .transit).location p = .transit := by
    simp [State.location, State.setLocation]
  simp only [State.place, hlist, pressAnswer, pressPlace, hloc]
  rfl

end

/-- Settles O22: where the platen stood says how it leaves, and the port's queue is not the one it
leaves. -/
theorem arriveAtAQueue : Obligations.ArriveAtAQueue := by
  intro q sel s p hq hrecv hsel hcount queue joined reports counted hnew
  have hplaten : s.platenOf sel.toNat = some p := State.platenOf_eq_some hsel hcount
  have hloose (h : s.location p = .loadZone ∨ s.location p = .transit) :
      canArrive (s.location p) = true ∧ standsAt q (s.location p) = false := by
    rcases hq with rfl | rfl <;> rcases h with h | h <;> rw [h] <;> exact ⟨rfl, rfl⟩
  have hcounted (u : State) (code : Nat) : counted u code = misrouted q p u code := by
    rcases hq with rfl | rfl <;> rfl
  have arrives {u : State} {mark : Bool} {m : Nat} (hcan : canArrive (s.location p) = true)
      (hstands : standsAt q (s.location p) = false) (hout : s.takeOut q p = (u, mark))
      (hqueue : queue u = queue s) (hmark : mark.toNat = m) : reports u m := by
    subst hmark
    have hmoved := bodyArrive_of_moved hplaten hcan hstands hout
    rw [← hqueue] at hnew
    have hplaced : u.place q p mark =
        (answer .ok [(6, (queue u).length), (6, (queue u).length + 1), (1, mark.toNat)], joined u) := by
      rcases hq with rfl | rfl
      · have hq : queue u = u.pretreatQueue := if_pos rfl
        have hjoined : joined u =
          ({ u with pretreatQueue := u.pretreatQueue ++ [p] }).setLocation p .pretreatQueue := if_pos rfl
        rw [hq] at hnew ⊢
        rw [hjoined, State.place_pretreat hnew]
      · have hq : queue u = u.printQueue := if_neg (by decide)
        have hjoined : joined u =
          ({ u with printQueue := u.printQueue ++ [p] }).setLocation p .printQueue := if_neg (by decide)
        rw [hq] at hnew ⊢
        rw [hjoined, State.place_print hnew]
    exact takeFrame_answers hrecv (by rcases hq with rfl | rfl <;> rfl) (hmoved.trans hplaced)
  refine ⟨fun hloc => ?_, fun hprint hloc => ?_, fun hpretreat hloc => ?_, fun l hloc => ?_⟩
  · exact arrives (hloose hloc).1 (hloose hloc).2 (State.takeOut_of_loose hloc) rfl rfl
  · subst hprint
    rw [hcounted]
    exact arrives (by rw [hloc]; rfl) (by rw [hloc]; rfl) (State.takeOut_of_pretreatQueue hloc) rfl rfl
  · subst hpretreat
    rw [hcounted]
    exact arrives (by rw [hloc]; rfl) (by rw [hloc]; rfl) (State.takeOut_of_printQueue hloc) rfl rfl
  · rw [hcounted]
    exact arrives (by rw [hloc]; rfl) (by rcases hq with rfl | rfl <;> rw [hloc] <;> rfl)
      (State.takeOut_of_rack hloc) (by rcases hq with rfl | rfl <;> rfl) rfl

theorem Ticket.rackList_of_good {k : Ticket} {l : RackList} (hgood : k.disposition = .good)
    (hstage : (k.stage = .pretreated ∧ l = if k.priority = .rush then .dryRush else .dryStd) ∨
      (k.stage = .printed ∧ l = if k.priority = .rush then .cureRush else .cureStd)) :
    k.rackList = some l := by
  rcases hstage with ⟨hst, rfl⟩ | ⟨hst, rfl⟩ <;> cases hprio : k.priority <;>
    simp [Ticket.rackList, hgood, hst, hprio]

theorem Ticket.rackList_eq_none {k : Ticket}
    (h : k.disposition ≠ .good ∨ (k.stage ≠ .pretreated ∧ k.stage ≠ .printed)) :
    k.rackList = none := by
  unfold Ticket.rackList
  split <;> first | rfl | simp_all

/-- Settles O23: the ticket's stage and priority give the list, and a misroute leaves the ticket and the
lists as they are. -/
theorem arriveAtThePress : Obligations.ArriveAtThePress := by
  intro sel s p hrecv hsel hcount counted out mark hout
  have hplaten : s.platenOf sel.toNat = some p := State.platenOf_eq_some hsel hcount
  obtain ⟨b, hmark, hcan, hstands, htake, hticket, hlists⟩ : ∃ b : Bool, b.toNat = mark ∧
      canArrive (s.location p) = true ∧ standsAt .press (s.location p) = false ∧
      s.takeOut .press p = (out, b) ∧ out.ticket p = s.ticket p ∧ out.lists = s.lists := by
    have hkept (u : State) (code : Nat) (hu : u.platens = s.platens) :
        (misrouted .press p u code).ticket p = s.ticket p := by
      simp [State.ticket, misrouted, State.raise, State.setNotice, State.modifyPlaten, hu]
    rcases hout with ⟨hloc, rfl, rfl⟩ | ⟨hloc, rfl, rfl⟩ | ⟨hloc, rfl, rfl⟩
    · exact ⟨false, rfl, by rcases hloc with h | h <;> rw [h] <;> rfl,
        by rcases hloc with h | h <;> rw [h] <;> rfl, State.takeOut_of_loose hloc, rfl, rfl⟩
    · exact ⟨true, rfl, by rw [hloc]; rfl, by rw [hloc]; rfl, State.takeOut_of_pretreatQueue hloc,
        hkept _ 2 rfl, rfl⟩
    · exact ⟨true, rfl, by rw [hloc]; rfl, by rw [hloc]; rfl, State.takeOut_of_printQueue hloc,
        hkept _ 4 rfl, rfl⟩
  subst hmark
  have hmoved := bodyArrive_of_moved hplaten hcan hstands htake
  constructor
  · intro k l hk hgood hstage u
    have hlist : (out.ticket p).bind Ticket.rackList = some l := by
      rw [hticket, hk]
      exact Ticket.rackList_of_good hgood hstage
    have hjoin : (out.joinTail l p).grantEval = u := by
      rw [State.joinTail, State.setList, hlists]
    rw [State.place_press_of_list hlist, hjoin] at hmoved
    exact takeFrame_answers hrecv rfl hmoved
  · intro hpass
    have hlist : (out.ticket p).bind Ticket.rackList = none := by
      rw [hticket]
      rcases hpass with h | ⟨k, hk, h⟩
      · rw [h]
        rfl
      · rw [hk]
        exact Ticket.rackList_eq_none h
    exact takeFrame_answers hrecv rfl (hmoved.trans (State.place_press_of_pass hlist))

/-! ## READ_PLATEN (R53, R54) -/

section
variable {sel : Selector} {arg : Arg} {s : State} {p : PlatenIx} {k : Ticket} {fs : List Field}

theorem bodyReadPlaten_of_not_counted (hn : s.params.platenCount ≤ bitsAt arg 0 6) :
    bodyReadPlaten sel arg s = (answer0 .notFound, s) := by
  simp only [bodyReadPlaten, State.platenOf_eq_none hn]

theorem bodyReadPlaten_of_no_group (hsel : 8 < sel.toNat) :
    bodyReadPlaten sel arg s = (answer0 .notFound, s) := by
  have hzero : sel.toNat ≠ 0 := by omega
  simp only [bodyReadPlaten, if_neg hzero, if_pos hsel]
  split <;> rfl

theorem bodyReadPlaten_location (hplaten : s.platenOf (bitsAt arg 0 6) = some p)
    (hsel : sel.toNat = 0) :
    bodyReadPlaten sel arg s = (⟨.ok, groupWord arg (locationGroup s p)⟩, s) := by
  simp only [bodyReadPlaten, hplaten, if_pos hsel]

theorem bodyReadPlaten_of_empty (hplaten : s.platenOf (bitsAt arg 0 6) = some p)
    (hlow : sel.toNat ≠ 0) (hhigh : sel.toNat ≤ 8) (hticket : s.ticket p = none) :
    bodyReadPlaten sel arg s = (answer0 .none, s) := by
  simp only [bodyReadPlaten, hplaten, if_neg hlow, if_neg hhigh.not_gt, hticket]

theorem bodyReadPlaten_of_ticket (hplaten : s.platenOf (bitsAt arg 0 6) = some p)
    (hlow : sel.toNat ≠ 0) (hhigh : sel.toNat ≤ 8) (hticket : s.ticket p = some k)
    (hgroup : ticketGroup k sel.toNat = some fs) :
    bodyReadPlaten sel arg s = (⟨.ok, groupWord arg fs⟩, s) := by
  simp only [bodyReadPlaten, hplaten, if_neg hlow, if_neg hhigh.not_gt, hticket, hgroup]

end

/-- Settles O24: the selector names the location, one of the ticket's groups, or none. -/
theorem readPlaten : Obligations.ReadPlaten := by
  intro q sel arg s hrecv n answers
  have answered {a : Answer} (hbody : bodyReadPlaten sel arg s = (a, s)) : answers a :=
    takeFrame_answers hrecv (by cases q <;> rfl) hbody
  refine ⟨fun hn => answered (bodyReadPlaten_of_not_counted hn),
    fun hsel => answered (bodyReadPlaten_of_no_group hsel), fun p hn hcount => ?_⟩
  have hplaten : s.platenOf (bitsAt arg 0 6) = some p := State.platenOf_eq_some hn hcount
  refine ⟨fun hsel => ?location, fun hlow hhigh hticket => ?empty, fun k hticket => ?groups⟩
  case location =>
    subst hsel
    exact answered (bodyReadPlaten_location hplaten rfl)
  case empty =>
    exact answered (bodyReadPlaten_of_empty hplaten (by omega) hhigh hticket)
  case groups =>
    have grouped {fs : List Field} (hlow : sel.toNat ≠ 0) (hhigh : sel.toNat ≤ 8)
        (hgroup : ticketGroup k sel.toNat = some fs) : answers ⟨.ok, groupWord arg fs⟩ :=
      answered (bodyReadPlaten_of_ticket hplaten hlow hhigh hticket hgroup)
    refine ⟨?_, ?_, ?_, ?_, ?_, ?_, ?_, ?_⟩
    all_goals
      rintro rfl
      exact grouped (by decide) (by decide) rfl

end Sys2Proof.Machine
end

section
/-! PROOF. The Artwork Directory: ARTWORK_OPEN, ARTWORK_DELETE, SEGMENT_DROP and SEGMENT_SET (R67 to
R71). -/

namespace Sys2Proof.Machine

open Sys2Proof

/-! ## The entry that a selector names -/

section
variable {n : Nat} {a : ArtIx} {s : State}

theorem artOf_eq_some (h : n = a.val) : artOf n = some a := by
  subst h
  exact dif_pos a.isLt

theorem artOf_eq_none (h : 64 ≤ n) : artOf n = none :=
  dif_neg (by omega)

theorem State.artInUse_of_high (h : 64 ≤ n) : s.artInUse n = none := by
  simp only [State.artInUse, artOf_eq_none h]

theorem State.artInUse_of_free (h : n = a.val) (hfree : (s.artworks.get a).state = .free) :
    s.artInUse n = none := by
  simp only [State.artInUse, artOf_eq_some h, if_pos hfree]

theorem State.artInUse_of_used (h : n = a.val) (hused : (s.artworks.get a).state ≠ .free) :
    s.artInUse n = some a := by
  simp only [State.artInUse, artOf_eq_some h, if_neg hused]

theorem State.loadRunOn_iff : s.loadRunOn a = true ↔ ∃ r, s.loadRun = some r ∧ r.artwork = a := by
  unfold State.loadRunOn
  split
  · next r hr => simp [hr]
  · next hr => simp [hr]

theorem State.preflightOn_iff :
    s.preflightOn a = true ↔ s.engine.running = true ∧ s.engine.artwork = a := by
  simp [State.preflightOn]

theorem State.artBusy_iff : (s.loadRunOn a || s.preflightOn a) = true ↔
    (∃ r, s.loadRun = some r ∧ r.artwork = a) ∨ (s.engine.running = true ∧ s.engine.artwork = a) := by
  rw [Bool.or_eq_true, State.loadRunOn_iff, State.preflightOn_iff]

/-- A segment's change and the artwork's leaving READY write the entry once (R59). -/
theorem State.setSegment_eq (s : State) (a : ArtIx) (g : SegIx) (new : Segment) :
    s.setSegment a g new =
      { s with
        artworks := s.artworks.set a
          ({ s.artworks.get a with segs := (s.artworks.get a).segs.set g new } : Artwork).leaveReady } := by
  simp only [State.setSegment, State.modifySegment, State.modifyArtwork, Table.modify_modify]
  rfl

end

/-! ## ARTWORK_OPEN, ARTWORK_DELETE and SEGMENT_DROP (R67, R70, R71) -/

section
variable {sel : Selector} {arg : Arg} {s : State} {a : ArtIx}

theorem bodyArtworkOpen_of_high (hsel : 64 ≤ sel.toNat) :
    bodyArtworkOpen sel s = (answer0 .notFound, s) := by
  simp only [bodyArtworkOpen, artOf_eq_none hsel]

theorem bodyArtworkOpen_of_free (hsel : sel.toNat = a.val)
    (hfree : (s.artworks.get a).state = .free) :
    bodyArtworkOpen sel s =
      (answer0 .ok, { s with artworks := s.artworks.set a { Artwork.free with state := .loading } }) := by
  simp only [bodyArtworkOpen, artOf_eq_some hsel, if_pos hfree]
  rfl

theorem bodyArtworkOpen_of_used (hsel : sel.toNat = a.val)
    (hused : (s.artworks.get a).state ≠ .free) :
    bodyArtworkOpen sel s = (answer0 .badState, s) := by
  simp only [bodyArtworkOpen, artOf_eq_some hsel, if_neg hused]

theorem bodyArtworkDelete_of_no_entry (hentry : s.artInUse sel.toNat = none) :
    bodyArtworkDelete sel s = (answer0 .notFound, s) := by
  simp only [bodyArtworkDelete, hentry]

theorem bodyArtworkDelete_of_counted (hentry : s.artInUse sel.toNat = some a)
    (hcounts : (s.artworks.get a).lines ≠ 0 ∨ (s.artworks.get a).tickets ≠ 0) :
    bodyArtworkDelete sel s = (answer0 .inUse, s) := by
  simp only [bodyArtworkDelete, hentry, if_pos hcounts]

theorem bodyArtworkDelete_of_busy (hentry : s.artInUse sel.toNat = some a)
    (hcounts : ¬ ((s.artworks.get a).lines ≠ 0 ∨ (s.artworks.get a).tickets ≠ 0))
    (hbusy : (s.loadRunOn a || s.preflightOn a) = true) :
    bodyArtworkDelete sel s = (answer0 .busy, s) := by
  simp only [bodyArtworkDelete, hentry, if_neg hcounts, if_pos hbusy]

theorem bodyArtworkDelete_of_passed (hentry : s.artInUse sel.toNat = some a)
    (hcounts : ¬ ((s.artworks.get a).lines ≠ 0 ∨ (s.artworks.get a).tickets ≠ 0))
    (hbusy : ¬ (s.loadRunOn a || s.preflightOn a) = true) :
    bodyArtworkDelete sel s =
      (answer0 .ok, { s with artworks := s.artworks.set a Artwork.free }) := by
  simp only [bodyArtworkDelete, hentry, if_neg hcounts, if_neg hbusy]
  rfl

theorem bodySegmentDrop_of_no_entry (hentry : s.artInUse sel.toNat = none) :
    bodySegmentDrop sel arg s = (answer0 .notFound, s) := by
  simp only [bodySegmentDrop, hentry]

theorem bodySegmentDrop_of_tickets (hentry : s.artInUse sel.toNat = some a)
    (htickets : (s.artworks.get a).tickets ≠ 0) :
    bodySegmentDrop sel arg s = (answer0 .inUse, s) := by
  simp only [bodySegmentDrop, hentry, if_pos htickets]

theorem bodySegmentDrop_of_busy (hentry : s.artInUse sel.toNat = some a)
    (htickets : ¬ (s.artworks.get a).tickets ≠ 0)
    (hbusy : (s.loadRunOn a || s.preflightOn a) = true) :
    bodySegmentDrop sel arg s = (answer0 .busy, s) := by
  simp only [bodySegmentDrop, hentry, if_neg htickets, if_pos hbusy]

theorem bodySegmentDrop_of_absent (hentry : s.artInUse sel.toNat = some a)
    (htickets : ¬ (s.artworks.get a).tickets ≠ 0)
    (hbusy : ¬ (s.loadRunOn a || s.preflightOn a) = true)
    (hresident : (s.segment a (segAt arg 0)).resident = false) :
    bodySegmentDrop sel arg s = (answer0 .badState, s) := by
  simp only [bodySegmentDrop, hentry, if_neg htickets, if_neg hbusy, if_pos hresident]

theorem bodySegmentDrop_of_passed (hentry : s.artInUse sel.toNat = some a)
    (htickets : ¬ (s.artworks.get a).tickets ≠ 0)
    (hbusy : ¬ (s.loadRunOn a || s.preflightOn a) = true)
    (hresident : (s.segment a (segAt arg 0)).resident = true) :
    bodySegmentDrop sel arg s =
      (answer0 .ok, s.setSegment a (segAt arg 0) Segment.nonResident) := by
  simp only [bodySegmentDrop, hentry, if_neg htickets, if_neg hbusy, hresident, Bool.true_eq_false,
    if_false]

end

/-- Settles O25: the selector names no entry, a FREE one, or one that may be in use. -/
theorem artworkOpenDropDelete : Obligations.ArtworkOpenDropDelete := by
  constructor
  · intro sel s hrecv hsel
    have hentry := State.artInUse_of_high (s := s) hsel
    exact ⟨takeFrame_answers hrecv rfl (bodyArtworkOpen_of_high hsel),
      takeFrame_answers hrecv rfl (bodyArtworkDelete_of_no_entry hentry),
      fun arg => takeFrame_answers hrecv rfl (bodySegmentDrop_of_no_entry hentry)⟩
  · intro sel s a hrecv hsel e busy put with0
    have hfree := State.artInUse_of_free (s := s) hsel
    have hused := State.artInUse_of_used (s := s) hsel
    have hcounts (hlines : e.lines = 0) (htickets : e.tickets = 0) :
        ¬ (e.lines ≠ 0 ∨ e.tickets ≠ 0) := by simp [hlines, htickets]
    refine ⟨fun he => takeFrame_answers hrecv rfl (bodyArtworkOpen_of_free hsel he),
      fun he => takeFrame_answers hrecv rfl (bodyArtworkOpen_of_used hsel he),
      fun he => takeFrame_answers hrecv rfl (bodyArtworkDelete_of_no_entry (hfree he)),
      fun he hin => takeFrame_answers hrecv rfl (bodyArtworkDelete_of_counted (hused he) hin),
      fun he hlines htickets hbusy => takeFrame_answers hrecv rfl
        (bodyArtworkDelete_of_busy (hused he) (hcounts hlines htickets) (State.artBusy_iff.mpr hbusy)),
      fun he hlines htickets hbusy => takeFrame_answers hrecv rfl
        (bodyArtworkDelete_of_passed (hused he) (hcounts hlines htickets)
          (mt State.artBusy_iff.mp hbusy)), ?_⟩
    intro arg g dropped
    refine ⟨fun he => takeFrame_answers hrecv rfl (bodySegmentDrop_of_no_entry (hfree he)),
      fun he hin => takeFrame_answers hrecv rfl (bodySegmentDrop_of_tickets (hused he) hin),
      fun he htickets hbusy => takeFrame_answers hrecv rfl
        (bodySegmentDrop_of_busy (hused he) (not_not_intro htickets) (State.artBusy_iff.mpr hbusy)),
      fun he htickets hbusy hres => takeFrame_answers hrecv rfl
        (bodySegmentDrop_of_absent (hused he) (not_not_intro htickets) (mt State.artBusy_iff.mp hbusy)
          hres), fun he htickets hbusy hres => takeFrame_answers hrecv rfl ?_⟩
    exact (bodySegmentDrop_of_passed (hused he) (not_not_intro htickets)
      (mt State.artBusy_iff.mp hbusy) hres).trans (congrArg _ (State.setSegment_eq ..))

/-! ## SEGMENT_SET (R68, R69) -/

theorem planeOf_eq_none_iff {n : Nat} : planeOf n = none ↔ 5 ≤ n := by
  match n with
  | 0 | 1 | 2 | 3 | 4 => simp [planeOf]
  | n + 5 => simp [planeOf]

theorem loadKeyOf_eq_none_iff {n : Nat} : loadKeyOf n = none ↔ 3 ≤ n := by
  match n with
  | 0 | 1 | 2 => simp [loadKeyOf]
  | n + 3 => simp [loadKeyOf]

theorem segmentOfArg_eq_none {arg : Arg} {base : Nat}
    (h : ¬ (bitsAt arg 16 3 < 5 ∧ bitsAt arg 14 2 < 3)) : segmentOfArg arg base = none := by
  unfold segmentOfArg
  split
  · next hpl hlk =>
    refine absurd ⟨?_, ?_⟩ h
    · by_contra hn
      simp [planeOf_eq_none_iff.mpr (Nat.not_lt.mp hn)] at hpl
    · by_contra hn
      simp [loadKeyOf_eq_none_iff.mpr (Nat.not_lt.mp hn)] at hlk
  · rfl

theorem segmentOfArg_isSome {arg : Arg} {base : Nat}
    (h : bitsAt arg 16 3 < 5 ∧ bitsAt arg 14 2 < 3) : ∃ new, segmentOfArg arg base = some new := by
  obtain ⟨hpl, hlk⟩ := h
  obtain ⟨pl, hpl⟩ := Option.ne_none_iff_exists'.mp (mt planeOf_eq_none_iff.mp hpl.not_ge)
  obtain ⟨lk, hlk⟩ := Option.ne_none_iff_exists'.mp (mt loadKeyOf_eq_none_iff.mp hlk.not_ge)
  simp only [segmentOfArg, hpl, hlk, Option.some.injEq, exists_eq']

section
variable {sel : Selector} {arg : Arg} {s : State} {a : ArtIx} {w : Word} {new : Segment}

theorem State.overlapsOther_iff {g : SegIx} :
    s.overlapsOther a g new = true ↔
      ∃ b h, ¬ (b = a ∧ h = g) ∧ (s.segment b h).resident = true ∧
        new.firstStore ≤ (s.segment b h).lastStore ∧ (s.segment b h).firstStore ≤ new.lastStore := by
  simp only [State.overlapsOther, Segment.overlaps, List.any_eq_true, List.mem_finRange, true_and,
    Bool.and_eq_true, Bool.not_eq_true', Bool.and_eq_false_iff, beq_eq_false_iff_ne, decide_eq_true_iff,
    not_and_or, ne_eq]
  constructor
  · rintro ⟨b, h, ⟨hres, hother⟩, hlo, hhi⟩
    exact ⟨b, h, hother, hres, hlo, hhi⟩
  · rintro ⟨b, h, hother, hres, hlo, hhi⟩
    exact ⟨b, h, ⟨hres, hother⟩, hlo, hhi⟩

theorem bodySegmentSet_of_no_ext (hext : s.ext .order = none) :
    bodySegmentSet sel arg s = (answer0 .badState, s) := by
  simp only [bodySegmentSet, hext]

theorem bodySegmentSet_of_no_entry (hext : s.ext .order = some w)
    (hentry : s.artInUse sel.toNat = none) :
    bodySegmentSet sel arg s = (answer0 .notFound, s) := by
  simp only [bodySegmentSet, hext, hentry]

theorem bodySegmentSet_of_not_encoded (hext : s.ext .order = some w)
    (hentry : s.artInUse sel.toNat = some a) (hnew : segmentOfArg arg w.toNat = none) :
    bodySegmentSet sel arg s = (answer0 .notFound, s) := by
  simp only [bodySegmentSet, hext, hentry, hnew]

theorem bodySegmentSet_of_tickets (hext : s.ext .order = some w)
    (hentry : s.artInUse sel.toNat = some a) (hnew : segmentOfArg arg w.toNat = some new)
    (htickets : (s.artworks.get a).tickets ≠ 0) :
    bodySegmentSet sel arg s = (answer0 .inUse, s) := by
  simp only [bodySegmentSet, hext, hentry, hnew, if_pos htickets]

theorem bodySegmentSet_of_busy (hext : s.ext .order = some w)
    (hentry : s.artInUse sel.toNat = some a) (hnew : segmentOfArg arg w.toNat = some new)
    (htickets : ¬ (s.artworks.get a).tickets ≠ 0)
    (hbusy : (s.loadRunOn a || s.preflightOn a) = true) :
    bodySegmentSet sel arg s = (answer0 .busy, s) := by
  simp only [bodySegmentSet, hext, hentry, hnew, if_neg htickets, if_pos hbusy]

/-- A SEGMENT_SET that reaches the checks of its range (R68, checks 6 and 7). -/
theorem bodySegmentSet_of_checked (hext : s.ext .order = some w)
    (hentry : s.artInUse sel.toNat = some a) (hnew : segmentOfArg arg w.toNat = some new)
    (htickets : ¬ (s.artworks.get a).tickets ≠ 0)
    (hbusy : ¬ (s.loadRunOn a || s.preflightOn a) = true) :
    bodySegmentSet sel arg s =
      if new.inStore = false then (answer0 .notFound, s)
      else if s.overlapsOther a (segAt arg 28) new then (answer0 .overlap, s)
      else (answer .ok [(17, new.firstStore), (7, 0), (8, new.blockCount - 1)],
        s.setSegment a (segAt arg 28) new) := by
  simp only [bodySegmentSet, hext, hentry, hnew, if_neg htickets, if_neg hbusy]

end

/-- The checks of SEGMENT_SET before its range (R68, checks 1 to 5). -/
theorem segmentSet_refusals (sel : Selector) (arg : Arg) (s : State) (hrecv : s.inFrame .order) :
    let refusedWith (r : Result) : Prop :=
      exec (.segmentSet sel arg) s = .next (s.finish .order ⟨r, 0⟩ none)
    ((s.ports.get .order).ext = none → refusedWith .badState) ∧
    ((s.ports.get .order).ext ≠ none →
      (64 ≤ sel.toNat → refusedWith .notFound) ∧
      ∀ a : ArtIx, sel.toNat = a.val →
        let e := s.artworks.get a
        let encoded : Prop := (arg.extractLsb' 16 3).toNat < 5 ∧ (arg.extractLsb' 14 2).toNat < 3
        let busy : Prop := (∃ r, s.loadRun = some r ∧ r.artwork = a) ∨
          (s.engine.running = true ∧ s.engine.artwork = a)
        (e.state = .free → refusedWith .notFound) ∧
        (e.state ≠ .free → ¬ encoded → refusedWith .notFound) ∧
        (e.state ≠ .free → encoded → e.tickets ≠ 0 → refusedWith .inUse) ∧
        (e.state ≠ .free → encoded → e.tickets = 0 → busy → refusedWith .busy)) := by
  intro refusedWith
  have refused {r : Result} (hbody : bodySegmentSet sel arg s = (answer0 r, s)) : refusedWith r :=
    takeFrame_answers hrecv rfl hbody
  refine ⟨fun hext => refused (bodySegmentSet_of_no_ext hext), fun hext => ?_⟩
  obtain ⟨w, hext⟩ : ∃ w, s.ext .order = some w := Option.ne_none_iff_exists'.mp hext
  refine ⟨fun hsel => refused (bodySegmentSet_of_no_entry hext (State.artInUse_of_high hsel)),
    fun a hsel => ?_⟩
  intro e encoded busy
  refine ⟨fun he => refused (bodySegmentSet_of_no_entry hext (State.artInUse_of_free hsel he)),
    fun he henc => refused (bodySegmentSet_of_not_encoded hext (State.artInUse_of_used hsel he)
      (segmentOfArg_eq_none henc)), fun he henc htickets => ?_, fun he henc htickets hbusy => ?_⟩
  all_goals obtain ⟨new, hnew⟩ := segmentOfArg_isSome (base := w.toNat) henc
  · exact refused (bodySegmentSet_of_tickets hext (State.artInUse_of_used hsel he) hnew htickets)
  · exact refused (bodySegmentSet_of_busy hext (State.artInUse_of_used hsel he) hnew
      (not_not_intro htickets) (State.artBusy_iff.mpr hbusy))

theorem segmentSet_range_word {lo hi : Nat} (hlo : lo ≤ hi) (hhi : hi ≤ 131071) (hlen : hi - lo ≤ 255) :
    packWord [(17, lo), (7, 0), (8, hi - lo)] = BitVec.ofNat 32 (lo + 2 ^ 24 * (hi - lo)) := by
  refine congrArg (BitVec.ofNat 32) ?_
  simp only [pack]
  omega

/-- Settles O26: the range follows from base, length and direction; its last block is judged against
the store and against the other resident segments. -/
theorem segmentSet : Obligations.SegmentSet := by
  refine ⟨segmentSet_refusals, ?_⟩
  intro sel arg s a w pl lk hrecv hsel hext e hused hplane hkey htickets hrun hpre g len down lo hi new
    clash placed
  have hlen : len < 256 := bitsAt_lt arg 20 8
  have hnew : segmentOfArg arg w.toNat = some new := by
    have hplane : planeOf (bitsAt arg 16 3) = some pl := hplane
    have hkey : loadKeyOf (bitsAt arg 14 2) = some lk := hkey
    simp only [segmentOfArg, hplane, hkey]
    rfl
  have hlo : new.firstStore = lo := by
    change w.toNat + new.lowBlock = w.toNat + _
    refine congrArg _ ?_
    cases hdir : down <;> simp only [new, Segment.lowBlock, hdir] <;> rfl
  have hhi : new.lastStore = hi := by
    change w.toNat + new.highBlock = w.toNat + _
    refine congrArg _ ?_
    cases hdir : down <;> simp only [new, Segment.highBlock, hdir] <;> rfl
  have hbounds : w.toNat ≤ lo ∧ lo ≤ hi ∧ hi - lo ≤ 255 ∧ new.blockCount - 1 = hi - lo := by
    have hcount : new.blockCount - 1 = new.lastStore - new.firstStore := by
      change new.highBlock - new.lowBlock + 1 - 1 =
        w.toNat + new.highBlock - (w.toNat + new.lowBlock)
      omega
    rw [hcount, hhi, hlo]
    change w.toNat ≤ w.toNat + _ ∧ w.toNat + _ ≤ w.toNat + _ ∧ w.toNat + _ - (w.toNat + _) ≤ 255 ∧ _
    cases down <;> simp <;> omega
  have hinStore : new.inStore = false ↔ 131071 < hi := by
    simp only [Segment.inStore, hhi, Bool.and_eq_false_iff, decide_eq_false_iff_not,
      show Config.storeBlocks = 131072 from rfl]
    change ¬ w.toNat < 131072 ∨ ¬ hi < 131072 ↔ _
    omega
  have hclash : s.overlapsOther a (segAt arg 28) new = true ↔ clash := by
    rw [State.overlapsOther_iff, hlo, hhi]
    exact Iff.rfl
  have hbody := bodySegmentSet_of_checked hext (State.artInUse_of_used hsel hused) hnew
    (not_not_intro htickets) (mt State.artBusy_iff.mp (not_or.mpr ⟨hrun, hpre⟩))
  refine ⟨fun hhigh => takeFrame_answers hrecv rfl (hbody.trans (if_pos (hinStore.mpr hhigh))),
    fun hfits hover => takeFrame_answers hrecv rfl (hbody.trans ?_),
    fun hfits hover => takeFrame_answers hrecv rfl (hbody.trans ?_)⟩
  all_goals rw [if_neg (mt hinStore.mp hfits.not_gt)]
  · exact if_pos (hclash.mpr hover)
  · rw [if_neg (mt hclash.mp hover), answer, hlo, hbounds.2.2.2,
      segmentSet_range_word hbounds.2.1 hfits hbounds.2.2.1, State.setSegment_eq]
    rfl

end Sys2Proof.Machine
end

section
/-! PROOF. The load side: LOAD_RUN and LOAD_ABORT (R72, R76), the fault records (R64 to R66), READ_WORD
(R77), and the reads of artworks and of the preflight (R78, R91). -/

namespace Sys2Proof.Machine

open Sys2Proof

/-! ## LOAD_RUN and LOAD_ABORT (R72, R76) -/

section
variable {sel : Selector} {arg : Arg} {s : State} {a : ArtIx} {r : LoadRun}

/-- The flags of a load side's access by a write at a run's open (R63, R72). -/
theorem accessFlags_open (d : Segment) (b : Nat) :
    accessFlags d .load true (.atOpen b) =
      ⟨!d.resident || d.loadKey == .absent, false, d.resident && d.loadKey == .read⟩ := by
  simp [accessFlags, Segment.keyAbsent]

/-- An open is refused unless the segment is resident and may be written. -/
theorem accessFlags_open_any (d : Segment) (b : Nat) :
    (accessFlags d .load true (.atOpen b)).any = true ↔ d.resident = false ∨ d.loadKey ≠ .readWrite := by
  rw [accessFlags_open]
  cases hres : d.resident <;> cases hkey : d.loadKey <;> simp [AccessFlags.any]

theorem bodyLoadRun_of_no_entry (hentry : s.artInUse sel.toNat = none) :
    bodyLoadRun sel arg s = (answer0 .notFound, s) := by
  simp only [bodyLoadRun, hentry]

theorem bodyLoadRun_of_tickets (hentry : s.artInUse sel.toNat = some a)
    (htickets : (s.artworks.get a).tickets ≠ 0) : bodyLoadRun sel arg s = (answer0 .inUse, s) := by
  simp only [bodyLoadRun, hentry, if_pos htickets]

theorem bodyLoadRun_of_busy (hentry : s.artInUse sel.toNat = some a)
    (htickets : ¬ (s.artworks.get a).tickets ≠ 0)
    (hbusy : (s.loadRun.isSome || s.preflightOn a) = true) :
    bodyLoadRun sel arg s = (answer0 .busy, s) := by
  simp only [bodyLoadRun, hentry, if_neg htickets, if_pos hbusy]

theorem bodyLoadRun_of_checked (hentry : s.artInUse sel.toNat = some a)
    (htickets : ¬ (s.artworks.get a).tickets ≠ 0)
    (hbusy : ¬ (s.loadRun.isSome || s.preflightOn a) = true) :
    bodyLoadRun sel arg s =
      if (accessFlags (s.segment a (segAt arg 28)) .load true (.atOpen (bitsAt arg 20 8))).any then
        (answer0 .fault, s.recordFault .load
          (accessFlags (s.segment a (segAt arg 28)) .load true (.atOpen (bitsAt arg 20 8))) .runOpen a
          (segAt arg 28) (.atOpen (bitsAt arg 20 8)) .a)
      else (answer0 .ok,
        ({ s with
          loadRun := some ⟨a, segAt arg 28, bitsAt arg 20 8, bitsAt arg 12 8 + 1, 0⟩
          } : State).modifyArtwork a Artwork.leaveReady) := by
  simp only [bodyLoadRun, hentry, if_neg htickets, if_neg hbusy]

theorem bodyLoadAbort_of_none (hrun : s.loadRun = none) : bodyLoadAbort s = (answer0 .none, s) := by
  simp only [bodyLoadAbort, hrun]

theorem bodyLoadAbort_of_some (hrun : s.loadRun = some r) :
    bodyLoadAbort s = (answer .ok [(9, r.written)], s.endLoadRun r .aborted) := by
  simp only [bodyLoadAbort, hrun]

end

/-- Settles O27: the checks of R72 in their order, then the flags of the access that the open makes. -/
theorem loadRunOpenAndAbort : Obligations.LoadRunOpenAndAbort := by
  intro sel arg s hrecv g first refusedWith
  refine ⟨fun hsel => takeFrame_answers hrecv rfl
      (bodyLoadRun_of_no_entry (State.artInUse_of_high hsel)), fun a hsel => ?opens,
    fun hrun => takeFrame_answers hrecv rfl (bodyLoadAbort_of_none hrun),
    fun r hrun => takeFrame_answers hrecv rfl (bodyLoadAbort_of_some hrun)⟩
  intro e d busy
  have hentry := State.artInUse_of_used (s := s) hsel
  have hbusy : (s.loadRun.isSome || s.preflightOn a) = true ↔ busy := by
    rw [Bool.or_eq_true, Option.isSome_iff_ne_none, State.preflightOn_iff]
  refine ⟨fun he => takeFrame_answers hrecv rfl
      (bodyLoadRun_of_no_entry (State.artInUse_of_free hsel he)),
    fun he htickets => takeFrame_answers hrecv rfl (bodyLoadRun_of_tickets (hentry he) htickets),
    fun he htickets hin => takeFrame_answers hrecv rfl
      (bodyLoadRun_of_busy (hentry he) (not_not_intro htickets) (hbusy.mpr hin)),
    fun he htickets hout => ?checked⟩
  have hbody := bodyLoadRun_of_checked (arg := arg) (hentry he) (not_not_intro htickets)
    (mt hbusy.mp hout)
  refine ⟨fun hres hkey => takeFrame_answers hrecv rfl (hbody.trans ?granted),
    fun hno => takeFrame_answers hrecv rfl (hbody.trans ?refused)⟩
  case granted =>
    exact if_neg (mt (accessFlags_open_any d first).mp
      (by rintro (h | h) <;> simp_all))
  case refused =>
    refine (if_pos ((accessFlags_open_any d first).mpr hno)).trans ?_
    exact congrArg (fun f => (answer0 .fault, s.recordFault .load f .runOpen a g (.atOpen first) .a))
      (accessFlags_open d first)

/-! ## Fault records (R64 to R66) -/

section
variable {side : Side} {sel : Selector} {arg : Arg} {s : State} {f : AccessFlags} {o : FaultOrigin}
  {a : ArtIx} {g : SegIx} {b : AccessBlock} {bed : Bed}

theorem State.recordFault_of_empty (hempty : (s.faults.get side).frozen = false) :
    s.recordFault side f o a g b bed =
      ({ s with
        faults := s.faults.set side ⟨true, f, o, a, g, b.recorded, b.isEdge, bed, false⟩ }).raise
        (faultKind side)
        [(8, b.recorded), (4, g.val), (6, a.val), flag f.readOnly, flag f.length, flag f.nonResident,
         (1, bedCode bed)] := by
  simp only [State.recordFault, hempty, Bool.false_eq_true, if_false]

theorem State.recordFault_of_frozen (hfrozen : (s.faults.get side).frozen = true) :
    s.recordFault side f o a g b bed =
      { s with faults := s.faults.set side { s.faults.get side with overrun := true } } := by
  simp only [State.recordFault, hfrozen, if_true]

theorem sideOf_eq_none {n : Nat} (h : 2 ≤ n) : sideOf n = none := by
  match n, h with
  | _ + 2, _ => rfl

theorem bodyReadFault_of_high (hsel : 2 ≤ sel.toNat) :
    bodyReadFault sel arg s = (answer0 .notFound, s) := by
  simp only [bodyReadFault, sideOf_eq_none hsel]

theorem bodyClearFault_of_high (hsel : 2 ≤ sel.toNat) :
    bodyClearFault sel s = (answer0 .notFound, s) := by
  simp only [bodyClearFault, sideOf_eq_none hsel]

theorem bodyReadFault_of_side (hside : sideOf sel.toNat = some side) :
    bodyReadFault sel arg s =
      if (s.faults.get side).frozen then
        (⟨.ok, groupWord arg (faultFields (s.faults.get side))⟩, s)
      else (answer0 .none, s) := by
  simp only [bodyReadFault, hside]

theorem bodyClearFault_of_side (hside : sideOf sel.toNat = some side) :
    bodyClearFault sel s =
      if (s.faults.get side).frozen then
        (answer .ok [flag (s.faults.get side).flags.nonResident, flag (s.faults.get side).flags.length,
           flag (s.faults.get side).flags.readOnly, flag (s.faults.get side).overrun],
          { s with faults := s.faults.set side FaultRecord.empty })
      else (answer0 .none, s) := by
  simp only [bodyClearFault, hside]

end

/-- Settles O28: an empty record freezes, a frozen one gains OVERRUN and is what the commands read. -/
theorem faultRecords : Obligations.FaultRecords := by
  intro q sel arg s hq hrecv
  have hread : Cmd.readFault.acceptedOn q = true := by rcases hq with rfl | rfl <;> rfl
  have hclear : Cmd.clearFault.acceptedOn q = true := by rcases hq with rfl | rfl <;> rfl
  refine ⟨fun hsel => ⟨takeFrame_answers hrecv hread (bodyReadFault_of_high hsel),
    takeFrame_answers hrecv hclear (bodyClearFault_of_high hsel)⟩, fun side hside => ?_⟩
  have hsideOf : sideOf sel.toNat = some side := by
    rcases hside with ⟨rfl, rfl⟩ | ⟨rfl, rfl⟩ <;> rfl
  have hreads := bodyReadFault_of_side (arg := arg) (s := s) hsideOf
  have hclears := bodyClearFault_of_side (s := s) hsideOf
  intro r
  constructor
  · intro hempty
    have hnot : ¬ (s.faults.get side).frozen = true := by rw [hempty]; exact Bool.false_ne_true
    rw [if_neg hnot] at hreads hclears
    refine ⟨takeFrame_answers hrecv hread hreads, takeFrame_answers hrecv hclear hclears, ?_⟩
    intro f o a g b bed freezes
    have hrecord (x : AccessBlock) (hb : x.recorded = b) : freezes x x.isEdge := by
      subst hb
      cases side <;> exact State.recordFault_of_empty hempty
    exact ⟨hrecord (.block b) rfl, hrecord (.atOpen b) rfl, hrecord (.edge b) rfl⟩
  · intro hfrozen
    have hfields : faultFields (s.faults.get side) =
        [(1, 1), flag r.flags.nonResident, flag r.flags.length, flag r.flags.readOnly,
         (3, originCode r.origin), (6, r.artwork.val), (4, r.segment.val), (8, r.block),
         flag r.edge, (1, bedCode r.bed), flag r.overrun] := by
      rw [faultFields, show (s.faults.get side).frozen = true from hfrozen]
      rfl
    rw [if_pos hfrozen] at hreads hclears
    rw [hfields] at hreads
    exact ⟨takeFrame_answers hrecv hread hreads, takeFrame_answers hrecv hclear hclears,
      fun f o a g b bed => State.recordFault_of_frozen hfrozen⟩

/-! ## READ_WORD (R77) -/

section
variable {sel : Selector} {arg : Arg} {s : State} {a : ArtIx}

theorem Segment.authorizes_iff {d : Segment} {b : Nat} :
    d.authorizes b = true ↔ d.lowBlock ≤ b ∧ b ≤ d.highBlock := by
  simp [Segment.authorizes]

/-- The flags of a read by the load side (R63). -/
theorem accessFlags_read (d : Segment) (b : Nat) :
    accessFlags d .load false (.block b) =
      ⟨!d.resident || d.loadKey == .absent, d.resident && !d.authorizes b, false⟩ := by
  simp [accessFlags, Segment.keyAbsent]

theorem bodyReadWord_of_no_entry (hentry : s.artInUse sel.toNat = none) :
    bodyReadWord sel arg s = (answer0 .notFound, s) := by
  simp only [bodyReadWord, hentry]

theorem bodyReadWord_of_granted (hentry : s.artInUse sel.toNat = some a)
    (hflags : (accessFlags (s.segment a (segAt arg 0)) .load false (.block (bitsAt arg 4 8))).any =
      false) :
    bodyReadWord sel arg s =
      (⟨.ok, s.storeWord ((s.segment a (segAt arg 0)).base + bitsAt arg 4 8)
        (arg.extractLsb' 12 10).toFin⟩, s) := by
  simp only [bodyReadWord, hentry, hflags, Bool.false_eq_true, if_false]

theorem bodyReadWord_of_refused {f : AccessFlags} (hentry : s.artInUse sel.toNat = some a)
    (hflags : accessFlags (s.segment a (segAt arg 0)) .load false (.block (bitsAt arg 4 8)) = f)
    (hany : f.any = true) :
    bodyReadWord sel arg s =
      (answer0 .fault, s.recordFault .load f .readWord a (segAt arg 0) (.block (bitsAt arg 4 8)) .a) := by
  simp only [bodyReadWord, hentry, hflags, if_pos hany]

theorem State.storeWord_of_written {b : Nat} {x : Block} (w : Fin Config.blockWords)
    (hblock : Memory.block s.store b = some x) : s.storeWord b w = x.get w := by
  simp only [State.storeWord, hblock]

end

/-- Settles O30: the flags of the access decide between the word and the fault. -/
theorem readWord : Obligations.ReadWord := by
  intro sel arg s hrecv g b w
  refine ⟨fun hsel => takeFrame_answers hrecv rfl
    (bodyReadWord_of_no_entry (State.artInUse_of_high hsel)), fun a hsel => ?_⟩
  intro d
  refine ⟨fun hfree => takeFrame_answers hrecv rfl
    (bodyReadWord_of_no_entry (State.artInUse_of_free hsel hfree)), fun hused => ?_⟩
  have hentry := State.artInUse_of_used hsel hused
  have hflags := accessFlags_read d b
  have refused {f : AccessFlags} (hf : accessFlags d .load false (.block b) = f) (hany : f.any = true) :
      exec (.readWord sel arg) s =
        .next ((s.recordFault .load f .readWord a g (.block b) .a).finish .order ⟨.fault, 0⟩ none) :=
    takeFrame_answers hrecv rfl (bodyReadWord_of_refused hentry hf hany)
  refine ⟨fun hres hkey hlo hhi => ?granted, fun hres hkey hrange => ?range, fun hres hkey => ?absent,
    fun hres => ?nonResident⟩
  case granted =>
    have hin : d.authorizes b = true := Segment.authorizes_iff.mpr ⟨hlo, hhi⟩
    have hnone : (accessFlags d .load false (.block b)).any = false := by
      rw [hflags, hres, hin, beq_false_of_ne hkey]
      rfl
    exact ⟨_, takeFrame_answers hrecv rfl (bodyReadWord_of_granted hentry hnone),
      fun x hx => State.storeWord_of_written w hx⟩
  case range =>
    have hout : d.authorizes b = false := Bool.eq_false_iff.mpr (mt Segment.authorizes_iff.mp hrange)
    exact refused (hflags.trans (by rw [hres, hout, beq_false_of_ne hkey]; rfl)) rfl
  case absent =>
    refine refused (hflags.trans ?_) rfl
    have hlength : (!d.authorizes b) = decide (¬ (d.lowBlock ≤ b ∧ b ≤ d.highBlock)) := by
      rw [Bool.eq_iff_iff, decide_eq_true_iff, Bool.not_eq_true', ← Bool.not_eq_true,
        Segment.authorizes_iff]
    rw [hres, hkey, hlength]
    rfl
  case nonResident =>
    exact refused (hflags.trans (by rw [hres]; rfl)) rfl

/-! ## READ_ARTWORK and READ_PREFLIGHT (R78, R91) -/

section
variable {sel : Selector} {arg : Arg} {s : State} {fs : List Field}

/-- Six bits name an entry (log 14). -/
theorem artOf_bitsAt (arg : Arg) (lo : Nat) : artOf (bitsAt arg lo 6) = some (artAt arg lo) :=
  artOf_eq_some rfl

theorem bodyReadArtwork_of_group
    (hgroup : artworkGroup s (artAt arg 0) (segAt arg 6) sel.toNat = some fs) :
    bodyReadArtwork sel arg s = (⟨.ok, groupWord arg fs⟩, s) := by
  simp only [bodyReadArtwork, artOf_bitsAt, hgroup]

theorem bodyReadArtwork_of_no_group
    (hgroup : artworkGroup s (artAt arg 0) (segAt arg 6) sel.toNat = none) :
    bodyReadArtwork sel arg s = (answer0 .notFound, s) := by
  simp only [bodyReadArtwork, artOf_bitsAt, hgroup]

theorem bodyReadPreflight_of_group
    (hgroup : preflightGroup s (artAt arg 0) (bitsAt arg 6 3) (segAt arg 6) sel.toNat = some fs) :
    bodyReadPreflight sel arg s = (⟨.ok, groupWord arg fs⟩, s) := by
  simp only [bodyReadPreflight, artOf_bitsAt, hgroup]

theorem bodyReadPreflight_of_no_group
    (hgroup : preflightGroup s (artAt arg 0) (bitsAt arg 6 3) (segAt arg 6) sel.toNat = none) :
    bodyReadPreflight sel arg s = (answer0 .notFound, s) := by
  simp only [bodyReadPreflight, artOf_bitsAt, hgroup]

theorem artworkGroup_eq_none {a : ArtIx} {g : SegIx} {n : Nat} (h : 4 ≤ n) :
    artworkGroup s a g n = none := by
  match n, h with
  | _ + 4, _ => rfl

theorem preflightGroup_eq_none {a : ArtIx} {sub : Nat} {g : SegIx} {n : Nat} (h : 5 ≤ n) :
    preflightGroup s a sub g n = none := by
  match n, h with
  | _ + 5, _ => rfl

theorem planeOf_planeCode (p : Plane) : planeOf (planeCode p) = some p := by cases p <;> rfl

end

/-- Settles O31: the selector names one of the groups, or none. -/
theorem readArtworkAndPreflight : Obligations.ReadArtworkAndPreflight := by
  intro q sel arg s hq hrecv a g e d art pre
  have hart : Cmd.readArtwork.acceptedOn q = true := by rcases hq with rfl | rfl <;> rfl
  have hpre : Cmd.readPreflight.acceptedOn q = true := by rcases hq with rfl | rfl <;> rfl
  have arts {fs : List Field} (hgroup : artworkGroup s a g sel.toNat = some fs) :
      art ⟨.ok, groupWord arg fs⟩ :=
    takeFrame_answers hrecv hart (bodyReadArtwork_of_group hgroup)
  have pres {fs : List Field}
      (hgroup : preflightGroup s a (bitsAt arg 6 3) g sel.toNat = some fs) :
      pre ⟨.ok, groupWord arg fs⟩ :=
    takeFrame_answers hrecv hpre (bodyReadPreflight_of_group hgroup)
  refine ⟨fun hsel => takeFrame_answers hrecv hart
      (bodyReadArtwork_of_no_group (artworkGroup_eq_none hsel)),
    fun hsel => arts (by subst hsel; rfl), fun hsel => arts (by subst hsel; rfl),
    fun hsel => arts (by subst hsel; rfl), fun hsel => arts (by subst hsel; rfl),
    fun hsel => takeFrame_answers hrecv hpre
      (bodyReadPreflight_of_no_group (preflightGroup_eq_none hsel)),
    fun hsel => pres (by subst hsel; rfl), fun hsel => pres (by subst hsel; rfl),
    fun hsel hsub => takeFrame_answers hrecv hpre (bodyReadPreflight_of_no_group ?noPlane),
    fun p hsel hsub => pres ?plane, fun hsel => pres (by subst hsel; rfl),
    fun hsel => pres (by subst hsel; rfl)⟩
  case noPlane =>
    have hnone : planeOf (bitsAt arg 6 3) = none := planeOf_eq_none_iff.mpr hsub
    subst hsel
    change (planeOf (bitsAt arg 6 3)).map _ = none
    rw [hnone]
    rfl
  case plane =>
    have hsome : planeOf (bitsAt arg 6 3) = some p := by
      rw [show bitsAt arg 6 3 = planeCode p from hsub, planeOf_planeCode]
    subst hsel
    change (planeOf (bitsAt arg 6 3)).map _ = some _
    rw [hsome]
    rfl

end Sys2Proof.Machine
end

section
/-! PROOF. The load link: what each word does outside a block and in one, and the judgement of a block
(R73, R74, R75). -/

namespace Sys2Proof.Machine

open Sys2Proof

section
variable {s : State} {b : LoadBlock} {r : LoadRun} {w : LinkWord} {x : Word}

theorem State.beginBlock_eq (s : State) :
    s.beginBlock = { s with loadBlock := some ⟨[], decide (s.loadRun ≠ none)⟩ } := by
  cases hrun : s.loadRun <;> simp [State.beginBlock, hrun]

theorem State.linkWord_of_outside (hblock : s.loadBlock = none) (hw : w ≠ .control .start) :
    s.linkWord w = s := by
  unfold State.linkWord
  rw [hblock]
  rcases w with x | k | _
  · rfl
  · cases k with
    | start => exact absurd rfl hw
    | _ => rfl
  · rfl

theorem State.linkWord_start_outside (hblock : s.loadBlock = none) :
    s.linkWord (.control .start) = s.beginBlock := by
  unfold State.linkWord
  rw [hblock]

theorem State.linkWord_held (hblock : s.loadBlock = some b) (hroom : b.words.length < 1024) :
    s.linkWord (.data x) = { s with loadBlock := some { b with words := b.words ++ [x] } } := by
  unfold State.linkWord
  rw [hblock]
  exact if_pos hroom

theorem State.linkWord_check (hblock : s.loadBlock = some b) (hfull : b.words.length = 1024) :
    s.linkWord (.data x) = ({ s with loadBlock := none } : State).judgeComplete b x := by
  unfold State.linkWord
  rw [hblock]
  exact if_neg (by rw [hfull]; exact lt_irrefl _)

theorem State.linkWord_restart (hblock : s.loadBlock = some b) :
    s.linkWord (.control .start) = (({ s with loadBlock := none } : State).judgeBad b).beginBlock := by
  unfold State.linkWord
  rw [hblock]

theorem State.linkWord_early (hblock : s.loadBlock = some b)
    (hw : w = .control .idle ∨ w = .control .endMark ∨ w = .control .cut ∨ w = .rejected) :
    s.linkWord w = ({ s with loadBlock := none } : State).judgeBad b := by
  unfold State.linkWord
  rw [hblock]
  rcases hw with rfl | rfl | rfl | rfl <;> rfl

/-- Data words gather in the block that a start marker began. -/
theorem State.linkWord_gather (ws : List Word) (b : LoadBlock) (s : State)
    (hroom : b.words.length + ws.length ≤ 1024) :
    (ws.map LinkWord.data).foldl State.linkWord { s with loadBlock := some b } =
      { s with loadBlock := some { b with words := b.words ++ ws } } := by
  induction ws generalizing b with
  | nil => simp
  | cons x ws ih =>
    rw [List.length_cons] at hroom
    rw [List.map_cons, List.foldl_cons, State.linkWord_held rfl (by omega)]
    refine (ih { b with words := b.words ++ [x] } ?_).trans ?_
    · simp only [List.length_append, List.length_singleton]
      omega
    · simp only [List.append_assoc, List.singleton_append]

/-- A block that belongs to no open run is discarded, whatever ends it (R73). -/
theorem State.judge_of_no_run (hno : s.loadRun = none ∨ b.inRun = false) :
    s.judgeBad b = s ∧ ∀ c, s.judgeComplete b c = s := by
  unfold State.judgeBad State.judgeComplete
  cases hrun : s.loadRun with
  | none => exact ⟨rfl, fun _ => rfl⟩
  | some r =>
    have hin : b.inRun = false := hno.resolve_left (by rw [hrun]; exact Option.some_ne_none r)
    simp only [hin, Bool.false_eq_true, if_false, implies_true, and_self]

theorem State.judgeBad_of_run (hrun : s.loadRun = some r) (hin : b.inRun = true) :
    s.judgeBad b = s.endLoadRun r .linkError := by
  simp only [State.judgeBad, hrun, if_pos hin]

theorem State.judgeComplete_of_bad {c : Word} (hrun : s.loadRun = some r) (hin : b.inRun = true)
    (hbad : c ≠ checkSum b.words) : s.judgeComplete b c = s.endLoadRun r .linkError := by
  simp only [State.judgeComplete, hrun, if_pos hin]
  exact dif_neg fun h => hbad h.2.symm

theorem State.judgeComplete_of_good {c : Word} (hrun : s.loadRun = some r) (hin : b.inRun = true)
    (hfull : b.words.length = 1024) (hgood : c = checkSum b.words) :
    s.judgeComplete b c = s.judgeGood r ⟨b.words, hfull⟩ := by
  simp only [State.judgeComplete, hrun, if_pos hin]
  exact dif_pos ⟨hfull, hgood.symm⟩

/-! ## A good block (R74) -/

/-- The flags of a run's step within the segment blocks, where the load side may write (R63). -/
theorem accessFlags_write_block {d : Segment} {n : Nat} (hres : d.resident = true)
    (hkey : d.loadKey = .readWrite) :
    accessFlags d .load true (.block n) = ⟨false, !d.authorizes n, false⟩ := by
  simp [accessFlags, Segment.keyAbsent, hres, hkey]

/-- The flags of a run's step past block 255 (R63). -/
theorem accessFlags_write_edge {d : Segment} (hres : d.resident = true)
    (hkey : d.loadKey = .readWrite) :
    accessFlags d .load true (.edge 255) = ⟨false, true, false⟩ := by
  simp [accessFlags, Segment.keyAbsent, hres, hkey]

theorem State.judgeGood_of_edge {x : Block} (hedge : 255 < r.first + r.written) :
    s.judgeGood r x =
      (s.recordFault .load
        (accessFlags (s.segment r.artwork r.segment) .load true (.edge 255)) .runBlock r.artwork r.segment
        (.edge 255) .a).endLoadRun r .lengthFault := by
  have hany : (accessFlags (s.segment r.artwork r.segment) .load true (.edge 255)).any = true := by
    simp [accessFlags, AccessFlags.any]
  simp only [State.judgeGood, if_pos hedge, hany, if_true]

theorem State.judgeGood_of_block {x : Block} (hblock : r.first + r.written ≤ 255)
    (hres : (s.segment r.artwork r.segment).resident = true)
    (hkey : (s.segment r.artwork r.segment).loadKey = .readWrite)
    (hout : (s.segment r.artwork r.segment).authorizes (r.first + r.written) = false) :
    s.judgeGood r x =
      (s.recordFault .load ⟨false, true, false⟩ .runBlock r.artwork r.segment
        (.block (r.first + r.written)) .a).endLoadRun r .lengthFault := by
  have hflags : accessFlags (s.segment r.artwork r.segment) .load true
      (.block (r.first + r.written)) = ⟨false, true, false⟩ := by
    rw [accessFlags_write_block hres hkey, hout]
    rfl
  simp only [State.judgeGood, if_neg hblock.not_gt, hflags]
  rfl

/-- The state that a good block in the authorized range leaves before the run is judged to be at its
end. -/
def State.blockWritten (s : State) (r : LoadRun) (x : Block) : State :=
  ({ s with
      store := Memory.write s.store
        ((s.segment r.artwork r.segment).base + (r.first + r.written)) x }).modifySegment
    r.artwork r.segment fun g => { g with written := true }

theorem State.judgeGood_of_granted {x : Block} (hblock : r.first + r.written ≤ 255)
    (hres : (s.segment r.artwork r.segment).resident = true)
    (hkey : (s.segment r.artwork r.segment).loadKey = .readWrite)
    (hin : (s.segment r.artwork r.segment).authorizes (r.first + r.written) = true) :
    s.judgeGood r x =
      if r.written + 1 = r.count then
        (s.blockWritten r x).endLoadRun { r with written := r.written + 1 } .complete
      else { s.blockWritten r x with loadRun := some { r with written := r.written + 1 } } := by
  have hflags : accessFlags (s.segment r.artwork r.segment) .load true
      (.block (r.first + r.written)) = ⟨false, false, false⟩ := by
    rw [accessFlags_write_block hres hkey, hin]
    rfl
  simp only [State.judgeGood, if_neg hblock.not_gt, hflags]
  rfl

theorem State.storeWord_blockWritten_self {x : Block} {n : Nat} (i : Fin Config.blockWords)
    (hn : (s.segment r.artwork r.segment).base + (r.first + r.written) = n)
    (hlow : n < Config.storeBlocks) : (s.blockWritten r x).storeWord n i = x.get i := by
  subst hn
  exact State.storeWord_of_written i (Memory.block_write_self s.store x hlow)

theorem State.storeWord_blockWritten_ne {x : Block} {c : Nat} (i : Fin Config.blockWords)
    (hc : c ≠ (s.segment r.artwork r.segment).base + (r.first + r.written)) :
    (s.blockWritten r x).storeWord c i = s.storeWord c i := by
  have hblock : Memory.block (s.blockWritten r x).store c = Memory.block s.store c :=
    Memory.block_write_ne s.store x hc
  simp only [State.storeWord, hblock]
  rfl

end

theorem Table.getElem?_cells {α : Type} {n : Nat} (t : Table α n) (i : Fin n) :
    t.cells[i.val]? = some (t.get i) :=
  List.getElem?_eq_getElem (by rw [t.size]; exact i.isLt)

/-- A fault recorded after the block was taken off the link is the fault recorded before. -/
theorem State.recordFault_out (s : State) (flags : AccessFlags) (o : FaultOrigin) (a : ArtIx) (g : SegIx)
    (at_ : AccessBlock) :
    ({ s with loadBlock := none } : State).recordFault .load flags o a g at_ .a =
      { s.recordFault .load flags o a g at_ .a with loadBlock := none } := by
  by_cases hfrozen : (s.faults.get .load).frozen = true
  · rw [State.recordFault_of_frozen hfrozen]
    exact State.recordFault_of_frozen hfrozen
  · rw [State.recordFault_of_empty (Bool.eq_false_iff.mpr hfrozen)]
    exact State.recordFault_of_empty (Bool.eq_false_iff.mpr hfrozen)

/-- Settles O29: the words are taken one by one, and the word that ends a block says what judges it. -/
theorem loadLinkBlock : Obligations.LoadLinkBlock := by
  refine ⟨?oneByOne, ?outside, ?gather, ?inBlock⟩
  case oneByOne =>
    rintro v w more s t ⟨⟩
    rfl
  case outside =>
    exact fun s w hblock hw => congrArg _ (State.linkWord_of_outside hblock hw)
  case gather =>
    intro s ws hblock hlen
    change Host.Outcome.next ((ws.map LinkWord.data).foldl State.linkWord
      (s.linkWord (.control .start))) = _
    rw [State.linkWord_start_outside hblock, State.beginBlock_eq,
      State.linkWord_gather ws _ _ (by simpa using hlen), List.nil_append]
  case inBlock =>
    intro s b hblock out begun early
    have taken {w : LinkWord} {t : State} (h : s.linkWord w = t) :
        exec (.loadLinkBlock w []) s = .next t := congrArg _ h
    refine ⟨fun hno => ?noRun, fun r hrun hin => ?run⟩
    case noRun =>
      obtain ⟨hbad, hcomplete⟩ := State.judge_of_no_run (s := out) (b := b) hno
      exact ⟨fun w hw => taken ((State.linkWord_early hblock hw).trans hbad),
        taken ((State.linkWord_restart hblock).trans
          ((congrArg _ hbad).trans (State.beginBlock_eq out))),
        fun hfull chk => taken ((State.linkWord_check hblock hfull).trans (hcomplete chk))⟩
    case run =>
      intro ends n d
      have hrunOut : out.loadRun = some r := hrun
      have hends : out.endLoadRun r .linkError = ends s r.written 2 := rfl
      refine ⟨fun w hw => taken ((State.linkWord_early hblock hw).trans
          (State.judgeBad_of_run hrunOut hin)),
        taken ((State.linkWord_restart hblock).trans ?restart), fun chk hfull => ⟨fun hchk => ?_, ?_⟩⟩
      case restart =>
        rw [State.judgeBad_of_run hrunOut hin, hends]
        exact State.beginBlock_eq _
      · exact taken ((State.linkWord_check hblock hfull).trans
          (State.judgeComplete_of_bad hrunOut hin hchk))
      · intro hchk
        have hgood : s.linkWord (.data chk) = out.judgeGood r ⟨b.words, hfull⟩ :=
          (State.linkWord_check hblock hfull).trans
            (State.judgeComplete_of_good hrunOut hin hfull hchk)
        have faulted (f : AccessFlags) (at_ : AccessBlock) :
            (out.recordFault .load f .runBlock r.artwork r.segment at_ .a).endLoadRun r .lengthFault =
              ends (s.recordFault .load f .runBlock r.artwork r.segment at_ .a) r.written 1 := by
          rw [State.recordFault_out]
          rfl
        have hedges (hedge : 255 < n) : s.linkWord (.data chk) =
            ends (s.recordFault .load (accessFlags d .load true (.edge 255)) .runBlock r.artwork r.segment
              (.edge 255) .a) r.written 1 :=
          hgood.trans ((State.judgeGood_of_edge hedge).trans (faulted ..))
        refine ⟨fun hedge => ⟨_, rfl, taken (hedges hedge)⟩,
          fun hedge hres hkey => taken ((hedges hedge).trans
            (by rw [accessFlags_write_edge hres hkey])),
          fun hlow hres hkey hout => taken (hgood.trans ((State.judgeGood_of_block (s := out) hlow hres
            hkey (Bool.eq_false_iff.mpr (mt Segment.authorizes_iff.mp hout))).trans (faulted ..))),
          fun hlow hres hkey hlo hhi hstore => ⟨_, taken (hgood.trans (State.judgeGood_of_granted (s := out)
            hlow hres hkey (Segment.authorizes_iff.mpr ⟨hlo, hhi⟩))), ?_⟩⟩
        have hself (i : Fin 1024) :
            b.words[i.val]? = some ((out.blockWritten r ⟨b.words, hfull⟩).storeWord (d.base + n) i) :=
          (Table.getElem?_cells (⟨b.words, hfull⟩ : Block) i).trans
            (congrArg some (State.storeWord_blockWritten_self (s := out) i rfl hstore).symm)
        have hother (c : Nat) (i : Fin Config.blockWords) (hc : c ≠ d.base + n) :
            (out.blockWritten r ⟨b.words, hfull⟩).storeWord c i = s.storeWord c i :=
          (State.storeWord_blockWritten_ne (s := out) i hc).trans rfl
        by_cases hlast : r.written + 1 = r.count
        · rw [if_pos hlast]
          exact ⟨hself, hother, rfl, rfl, rfl, rfl, rfl, fun h => absurd hlast h, fun _ => ⟨rfl, rfl⟩⟩
        · rw [if_neg hlast]
          exact ⟨hself, hother, rfl, rfl, rfl, rfl, rfl, fun _ => ⟨rfl, rfl⟩, fun h => absurd h hlast⟩

end Sys2Proof.Machine
end

section
/-! PROOF. The Preflight Engine: the sums it makes, PREFLIGHT_START (R81 to R83), block reads and the
completion (R84 to R87), and PREFLIGHT_ABANDON (R88). -/

namespace Sys2Proof.Machine

open Sys2Proof

/-! ## Sums (R84, R86) -/

theorem foldl_add_map {α : Type} (f : α → Nat) (l : List α) (n : Nat) :
    l.foldl (fun acc x => acc + f x) n = n + (l.map f).sum := by
  induction l generalizing n with
  | nil => rfl
  | cons x l ih => rw [List.foldl_cons, ih, List.map_cons, List.sum_cons, Nat.add_assoc]

theorem foldl_add_filter {α : Type} (q : α → Bool) (f : α → Nat) (l : List α) (n : Nat) :
    l.foldl (fun acc x => if q x then acc + f x else acc) n = n + ((l.filter q).map f).sum := by
  induction l generalizing n with
  | nil => rfl
  | cons x l ih =>
    rw [List.foldl_cons, ih]
    by_cases hx : q x = true
    · rw [if_pos hx, List.filter_cons_of_pos hx, List.map_cons, List.sum_cons, Nat.add_assoc]
    · rw [if_neg hx, List.filter_cons_of_neg hx]

theorem wordLevels_eq (w : Word) :
    wordLevels w = ((List.range 16).map fun i => (w.extractLsb' (2 * i) 2).toNat).sum := by
  rw [wordLevels, foldl_add_map, Nat.zero_add]

theorem State.blockLevels_eq (s : State) (b : Nat) :
    s.blockLevels b =
      ((List.finRange 1024).map fun w =>
        ((List.range 16).map fun i => ((s.storeWord b w).extractLsb' (2 * i) 2).toNat).sum).sum := by
  rw [State.blockLevels, foldl_add_map, Nat.zero_add, State.storeBlock, List.map_map]
  refine congrArg List.sum (List.map_congr_left fun w _ => ?_)
  exact wordLevels_eq _

theorem planeTotal_eq (e : Artwork) (p : Plane) :
    planeTotal e p =
      ((e.segs.cells.filter fun g => g.resident && g.printKey == .read && g.plane == p).map
        Segment.sum).sum :=
  (foldl_add_filter _ _ _ _).trans (Nat.zero_add _)

/-! ## Completion (R86, R87) -/

theorem State.completePreflight_eq (s : State) (a : ArtIx) :
    s.completePreflight a =
      ({ s with
          artworks := s.artworks.set a (s.artworks.get a).complete
          engine := Engine.idle }).raise .preflightEnd
        [(16, (s.artworks.get a).complete.lw), (6, a.val), (1, 0)] := by
  have hentry : (s.modifyArtwork a Artwork.complete).artworks.get a = (s.artworks.get a).complete :=
    Table.get_modify_self ..
  simp only [State.completePreflight, State.raisePreflightEnd, hentry]
  rfl

/-- A completion touches the artwork, the engine and the notices alone. -/
theorem State.completePreflight_keeps (s : State) (a : ArtIx) :
    (s.completePreflight a).lines = s.lines ∧ (s.completePreflight a).platens = s.platens ∧
      (s.completePreflight a).store = s.store ∧ (s.completePreflight a).loadRun = s.loadRun ∧
      (s.completePreflight a).beds = s.beds ∧ (s.completePreflight a).heads = s.heads ∧
      (s.completePreflight a).faults = s.faults :=
  ⟨rfl, rfl, rfl, rfl, rfl, rfl, rfl⟩

/-! ## PREFLIGHT_START (R81 to R83) -/

section
variable {sel : Selector} {arg : Arg} {s : State} {a : ArtIx}

/-- The mode of a PREFLIGHT_START (R182). -/
def preflightMode (arg : Arg) : PreflightMode := if arg.getLsbD 0 then .incremental else .full

theorem scanListOf_preflightMode (e : Artwork) (arg : Arg) :
    scanListOf e (preflightMode arg) =
      (List.finRange 16).filter fun g =>
        (e.segs.get g).resident && (e.segs.get g).printKey == .read &&
          (!arg.getLsbD 0 || (e.segs.get g).written || !(e.segs.get g).valid) := by
  unfold scanListOf preflightMode
  refine congrArg (List.filter · _) (funext fun g => ?_)
  cases arg.getLsbD 0 <;> rfl

theorem any_printable_iff {e : Artwork} :
    e.segs.cells.any Segment.printable = true ↔
      ∃ g, (e.segs.get g).resident = true ∧ (e.segs.get g).printKey = .read := by
  have hprintable (d : Segment) : d.printable = true ↔ d.resident = true ∧ d.printKey = .read := by
    simp [Segment.printable]
  simp only [List.any_eq_true, hprintable]
  exact Table.exists_mem_cells_iff

theorem bodyPreflightStart_of_high (hsel : 64 ≤ sel.toNat) :
    bodyPreflightStart sel arg s = (answer0 .notFound, s) := by
  simp only [bodyPreflightStart, artOf_eq_none hsel]

theorem bodyPreflightStart_of_free (hsel : sel.toNat = a.val)
    (hfree : (s.artworks.get a).state = .free) :
    bodyPreflightStart sel arg s = (answer0 .notFound, s) := by
  simp only [bodyPreflightStart, artOf_eq_some hsel, if_pos hfree]

theorem bodyPreflightStart_of_tickets (hsel : sel.toNat = a.val)
    (hused : (s.artworks.get a).state ≠ .free) (htickets : (s.artworks.get a).tickets ≠ 0) :
    bodyPreflightStart sel arg s = (answer0 .inUse, s) := by
  simp only [bodyPreflightStart, artOf_eq_some hsel, if_neg hused, if_pos htickets]

theorem bodyPreflightStart_of_busy (hsel : sel.toNat = a.val)
    (hused : (s.artworks.get a).state ≠ .free) (htickets : ¬ (s.artworks.get a).tickets ≠ 0)
    (hbusy : (s.engine.running || s.loadRunOn a) = true) :
    bodyPreflightStart sel arg s = (answer0 .busy, s) := by
  simp only [bodyPreflightStart, artOf_eq_some hsel, if_neg hused, if_neg htickets, if_pos hbusy]

theorem bodyPreflightStart_of_unprintable (hsel : sel.toNat = a.val)
    (hused : (s.artworks.get a).state ≠ .free) (htickets : ¬ (s.artworks.get a).tickets ≠ 0)
    (hbusy : ¬ (s.engine.running || s.loadRunOn a) = true)
    (hprint : (s.artworks.get a).segs.cells.any Segment.printable = false) :
    bodyPreflightStart sel arg s = (answer0 .notReady, s) := by
  simp only [bodyPreflightStart, artOf_eq_some hsel, if_neg hused, if_neg htickets, if_neg hbusy,
    if_pos hprint]

theorem bodyPreflightStart_of_passed {l : List SegIx} (hsel : sel.toNat = a.val)
    (hused : (s.artworks.get a).state ≠ .free) (htickets : ¬ (s.artworks.get a).tickets ≠ 0)
    (hbusy : ¬ (s.engine.running || s.loadRunOn a) = true)
    (hprint : (s.artworks.get a).segs.cells.any Segment.printable = true)
    (hlist : scanListOf (s.artworks.get a) (preflightMode arg) = l) :
    bodyPreflightStart sel arg s =
      (answer .ok [(5, l.length), (13, listedBlocks (s.artworks.get a) l)],
        s.startPreflight a (preflightMode arg)) := by
  subst hlist
  simp only [bodyPreflightStart, artOf_eq_some hsel, if_neg hused, if_neg htickets, if_neg hbusy,
    hprint, Bool.true_eq_false, if_false]
  rfl

/-- An empty scan list completes the preflight at once, on the sums that stand. -/
theorem State.startPreflight_of_empty {m : PreflightMode}
    (hlist : scanListOf (s.artworks.get a) m = []) :
    s.startPreflight a m =
      ({ s with
          artworks := s.artworks.set a (s.artworks.get a).complete
          engine := Engine.idle }).raise .preflightEnd
        [(16, (s.artworks.get a).complete.lw), (6, a.val), (1, 0)] := by
  simp only [State.startPreflight, hlist, State.completePreflight_eq, State.modifyArtwork,
    Table.modify, Table.get_set_self, Table.set_set]
  rfl

theorem State.startPreflight_of_listed {m : PreflightMode} {g : SegIx} {rest : List SegIx}
    (hlist : scanListOf (s.artworks.get a) m = g :: rest) :
    s.startPreflight a m =
      { s with
        artworks := s.artworks.set a { s.artworks.get a with state := .preflight, inkValid := false }
        engine := ⟨true, a, m, g :: rest, g, 0, 0, 0, 0⟩ } := by
  simp only [State.startPreflight, hlist]
  rfl

end

/-- Settles O32: the checks of R81 in their order; the scan list is empty, and the sums that stand give
the totals, or has a first segment. -/
theorem preflightStart : Obligations.PreflightStart := by
  refine ⟨fun sel arg s hrecv hsel => takeFrame_answers hrecv rfl (bodyPreflightStart_of_high hsel), ?_⟩
  intro sel arg s a hrecv hsel e incremental printable listed l total refusedWith busy
  have hbusy : (s.engine.running || s.loadRunOn a) = true ↔ busy := by
    rw [Bool.or_eq_true, State.loadRunOn_iff]
  have hlist : scanListOf e (preflightMode arg) = l := scanListOf_preflightMode e arg
  refine ⟨fun he => takeFrame_answers hrecv rfl (bodyPreflightStart_of_free hsel he),
    fun he htickets => takeFrame_answers hrecv rfl (bodyPreflightStart_of_tickets hsel he htickets),
    fun he htickets hin => takeFrame_answers hrecv rfl
      (bodyPreflightStart_of_busy hsel he (not_not_intro htickets) (hbusy.mpr hin)),
    fun he htickets hout hnone => takeFrame_answers hrecv rfl
      (bodyPreflightStart_of_unprintable hsel he (not_not_intro htickets) (mt hbusy.mp hout)
        (Bool.eq_false_iff.mpr fun h => ?noPrintable)),
    fun he htickets hout hsome hempty => takeFrame_answers hrecv rfl ?empty,
    fun g rest he htickets hout hcons => takeFrame_answers hrecv rfl ?listed⟩
  case noPrintable =>
    obtain ⟨g, hg⟩ := any_printable_iff.mp h
    exact hnone g hg
  case empty =>
    have hbody := bodyPreflightStart_of_passed hsel he (not_not_intro htickets) (mt hbusy.mp hout)
      (any_printable_iff.mpr hsome) (hlist.trans hempty)
    have htotal (p : Plane) : planeTotal e p = total p := planeTotal_eq e p
    rw [State.startPreflight_of_empty (hlist.trans hempty)] at hbody
    refine hbody.trans ?_
    have hcomplete : (s.artworks.get a).complete =
        { e with
          state := .ready
          inkValid := true
          totals := ⟨total .c, total .m, total .y, total .k, total .w⟩
          lc := (total .c + total .m + total .y + total .k) / 4096
          lw := total .w / 4096 } := by
      simp only [← htotal]
      rfl
    rw [hcomplete]
    rfl
  case listed =>
    have hprint : ∃ g, printable g := by
      have hmem : g ∈ l := by rw [hcons]; exact List.mem_cons_self
      have hg : listed g = true := (List.mem_filter.mp hmem).2
      rw [Bool.and_eq_true, Bool.and_eq_true, beq_iff_eq] at hg
      exact ⟨g, hg.1⟩
    have hbody := bodyPreflightStart_of_passed hsel he (not_not_intro htickets) (mt hbusy.mp hout)
      (any_printable_iff.mpr hprint) (hlist.trans hcons)
    rw [State.startPreflight_of_listed (hlist.trans hcons)] at hbody
    rw [hcons]
    exact hbody

/-! ## Block reads (R84) -/

/-- The state with one more block read, which makes the running sum `sum`. -/
def blockRead (s : State) (sum : Nat) : State :=
  { s with
    engine := { s.engine with
      sum := sum, blocks := s.engine.blocks + 1, inSegment := s.engine.inSegment + 1 } }

/-- The finished segment's descriptor holds its sum, valid and clean. -/
def segmentFinished (s : State) (sum : Nat) : State :=
  (blockRead s sum).modifySegment s.engine.artwork s.engine.current fun g =>
    { g with sum := sum, valid := true, written := false }

section
variable {s : State} {sum : Nat}

theorem State.scanBlock_eq
    (hsum : s.engine.sum + s.blockLevels ((s.segment s.engine.artwork s.engine.current).base +
      (s.segment s.engine.artwork s.engine.current).lowBlock + s.engine.inSegment) = sum) :
    s.scanBlock =
      if (s.segment s.engine.artwork s.engine.current).blockCount ≤ s.engine.inSegment + 1 then
        (blockRead s sum).finishSegment sum
      else blockRead s sum := by
  subst hsum
  rfl

theorem exec_preflightBlockRead_of_running (hrunning : s.engine.running = true) :
    exec .preflightBlockRead s = .next s.scanBlock :=
  if_pos hrunning

theorem exec_preflightBlockRead_of_idle (hrunning : s.engine.running = false) :
    exec .preflightBlockRead s = .next s :=
  if_neg (by rw [hrunning]; exact Bool.false_ne_true)

theorem State.finishSegment_of_next {g : SegIx}
    (hnext : s.engine.scanList[s.engine.segsDone + 1]? = some g) :
    (blockRead s sum).finishSegment sum =
      { s with
        engine := { s.engine with
          sum := 0, blocks := s.engine.blocks + 1, inSegment := 0, segsDone := s.engine.segsDone + 1,
          current := g } }.modifySegment s.engine.artwork s.engine.current fun x =>
        { x with sum := sum, valid := true, written := false } := by
  simp only [State.finishSegment, blockRead, hnext]
  rfl

theorem segmentFinished_entry :
    (segmentFinished s sum).artworks.get s.engine.artwork =
      { s.artworks.get s.engine.artwork with
        segs := (s.artworks.get s.engine.artwork).segs.set s.engine.current
          { s.segment s.engine.artwork s.engine.current with
            sum := sum, valid := true, written := false } } :=
  Table.get_modify_self ..

theorem segmentFinished_other {a : ArtIx} (ha : a ≠ s.engine.artwork) :
    (segmentFinished s sum).artworks.get a = s.artworks.get a :=
  Table.get_modify_ne _ _ ha

theorem segmentFinished_completePreflight_keeps (s : State) (sum : Nat) (a : ArtIx) :
    ((segmentFinished s sum).completePreflight a).lines = s.lines ∧
      ((segmentFinished s sum).completePreflight a).platens = s.platens ∧
      ((segmentFinished s sum).completePreflight a).store = s.store ∧
      ((segmentFinished s sum).completePreflight a).loadRun = s.loadRun ∧
      ((segmentFinished s sum).completePreflight a).beds = s.beds ∧
      ((segmentFinished s sum).completePreflight a).heads = s.heads ∧
      ((segmentFinished s sum).completePreflight a).faults = s.faults :=
  State.completePreflight_keeps (segmentFinished s sum) a

theorem State.finishSegment_of_last
    (hnext : s.engine.scanList[s.engine.segsDone + 1]? = none) :
    (blockRead s sum).finishSegment sum =
      (segmentFinished s sum).completePreflight s.engine.artwork := by
  simp only [State.finishSegment, blockRead, hnext]
  rfl

theorem bodyPreflightAbandon_of_idle (hrunning : s.engine.running = false) :
    bodyPreflightAbandon s = (answer0 .none, s) :=
  if_neg (by rw [hrunning]; exact Bool.false_ne_true)

theorem bodyPreflightAbandon_of_running (hrunning : s.engine.running = true) :
    bodyPreflightAbandon s =
      (answer .ok [(6, s.engine.artwork.val), (5, s.engine.segsDone)], s.abandonPreflight) :=
  if_pos hrunning

end

/-- Settles O33: a block read is inside the segment or its last one, and then a segment follows. -/
theorem preflightRuns : Obligations.PreflightRuns := by
  intro s n d sum
  have hscan := State.scanBlock_eq (s := s) (sum := sum) rfl
  clear_value sum
  refine ⟨State.blockLevels_eq s, exec_preflightBlockRead_of_idle, fun hrunning hmore => ?inside,
    fun g hrunning hlast hnext => ?last,
    fun hrecv hidle => takeFrame_answers hrecv rfl (bodyPreflightAbandon_of_idle hidle),
    fun hrecv hrunning => takeFrame_answers hrecv rfl (bodyPreflightAbandon_of_running hrunning)⟩
  case inside =>
    rw [exec_preflightBlockRead_of_running hrunning, hscan, if_neg hmore.not_ge]
    rfl
  case last =>
    rw [exec_preflightBlockRead_of_running hrunning, hscan, if_pos hlast.ge]
    exact congrArg _ (State.finishSegment_of_next hnext)

@[simp] theorem State.notice_raise_self (s : State) (k : NoticeKind) (d : List Field) :
    (s.raise k d).notice k = ⟨true, packDetail d⟩ := by
  simp [State.notice, State.raise, State.setNotice]

/-- Settles O34: the entry is complete with the sum just written, and no other entry is touched. -/
theorem preflightCompletes : Obligations.PreflightCompletes := by
  intro s n d sum hrunning hlast hnext
  have hscan := State.scanBlock_eq (s := s) (sum := sum) rfl
  clear_value sum
  intro e
  refine ⟨State.blockLevels_eq s, ?_⟩
  intro total
  have hentry : (segmentFinished s sum).artworks.get n.artwork =
      { s.artworks.get n.artwork with segs := e } := segmentFinished_entry
  have hcomplete := State.completePreflight_eq (segmentFinished s sum) n.artwork
  rw [hentry] at hcomplete
  have htotal (p : Plane) : planeTotal { s.artworks.get n.artwork with segs := e } p = total p :=
    planeTotal_eq _ p
  have hexec : exec .preflightBlockRead s = .next ((segmentFinished s sum).completePreflight n.artwork) := by
    rw [exec_preflightBlockRead_of_running hrunning, hscan, if_pos hlast.ge,
      State.finishSegment_of_last hnext]
  have hdone : ((segmentFinished s sum).completePreflight n.artwork).artworks.get n.artwork =
      ({ s.artworks.get n.artwork with segs := e } : Artwork).complete := by
    rw [hcomplete]
    exact Table.get_set_self ..
  obtain ⟨hlines, hplatens, hstore, hrun, hbeds, hheads, hfaults⟩ :=
    segmentFinished_completePreflight_keeps s sum n.artwork
  refine ⟨_, hexec, ?_⟩
  rw [hdone]
  refine ⟨rfl, rfl, rfl, rfl, fun p => ?_, ?_, ?_, fun a ha => ?_, ?_,
    hlines, hplatens, hstore, hrun, hbeds, hheads, hfaults⟩
  · rw [← htotal]
    cases p <;> rfl
  · simp only [← htotal]
    rfl
  · simp only [← htotal]
    rfl
  · rw [hcomplete]
    exact (Table.get_set_ne _ _ ha).trans (segmentFinished_other ha)
  · rw [hcomplete, State.notice_raise_self, ← htotal]
    rfl

end Sys2Proof.Machine
end

section
/-! PROOF. PRETREAT_DONE (R102 to R106): the judgement of a spray, each outcome as one write of the
platen's record. -/

namespace Sys2Proof.Machine

open Sys2Proof

section
variable {sel : Selector} {arg : Arg} {s : State} {p : PlatenIx} {k : Ticket} {n : Nat}

/-! ## One write of a platen's record -/

theorem State.modifyTicket_of_ticket {f : Ticket → Ticket} (hticket : s.ticket p = some k) :
    s.modifyTicket p f =
      { s with platens := s.platens.set p { s.platens.get p with ticket := some (f k) } } := by
  have hrecord : (s.platens.get p).ticket = some k := hticket
  simp only [State.modifyTicket, State.modifyPlaten, Table.modify, hrecord, Option.map_some]

/-- A platen's ticket changed, and the platen taken out of the slot. -/
theorem State.leaveSlot_of_ticket (hticket : s.ticket p = some k) :
    s.leaveSlot p =
      { s with
        slot := none
        platens := s.platens.set p { s.platens.get p with location := .transit, ticket := some k } } := by
  have hrecord : (s.platens.get p).ticket = some k := hticket
  simp only [State.leaveSlot, State.setLocation, State.modifyPlaten, Table.modify, ← hrecord]

theorem State.leaveSlot_written (r : Platen) :
    ({ s with platens := s.platens.set p r } : State).leaveSlot p =
      { s with slot := none, platens := s.platens.set p { r with location := .transit } } := by
  simp only [State.leaveSlot, State.setLocation, State.modifyPlaten, Table.modify, Table.get_set_self,
    Table.set_set]

/-! ## The judgement (R103 to R106) -/

/-- The state with the platen's record written. -/
def writtenRecord (s : State) (p : PlatenIx) (r : Platen) : State :=
  { s with platens := s.platens.set p r }

/-- The state with the platen's ticket written. -/
def withTicket (s : State) (p : PlatenIx) (k : Ticket) : State :=
  { s with platens := s.platens.set p { s.platens.get p with ticket := some k } }

theorem withTicket_ticket : (withTicket s p k).ticket p = some k := by
  simp [withTicket, State.ticket]

theorem withTicket_modifyTicket {f : Ticket → Ticket} :
    (withTicket s p k).modifyTicket p f = withTicket s p (f k) := by
  rw [State.modifyTicket_of_ticket withTicket_ticket]
  simp only [withTicket, Table.get_set_self, Table.set_set]

theorem withTicket_leaveSlot :
    (withTicket s p k).leaveSlot p =
      { s with
        slot := none
        platens := s.platens.set p { s.platens.get p with location := .transit, ticket := some k } } :=
  State.leaveSlot_written _

/-- The amount applied after a spray of `n`, held at 2000 (R103). -/
def appliedAfter (k : Ticket) (n : Nat) : Nat := min 2000 (k.applied + min n 2000)

theorem judgeSpray_of_good (hticket : s.ticket p = some k) (hgood : k.disposition = .good)
    (hstage : k.stage = .pretreating)
    (henough : k.dose ≤ appliedAfter k n + (s.fabric.get k.fabric).underTol) :
    judgeSpray p k n s =
      (answer (if 2000 < n then .clamped else .ok)
          [(2, if k.dose + (s.fabric.get k.fabric).overTol < appliedAfter k n then 1 else 0),
           (11, appliedAfter k n), (16, dryTargetOf (s.fabric.get k.fabric) (appliedAfter k n))],
        (withTicket s p { k with
          applied := appliedAfter k n, stage := .pretreated,
          dryTarget := some (dryTargetOf (s.fabric.get k.fabric) (appliedAfter k n)) }).leaveSlot p) := by
  have hadvance : ({ k with applied := appliedAfter k n } : Ticket).advance .pretreating .pretreated =
      { k with applied := appliedAfter k n, stage := .pretreated } :=
    Ticket.advance_of_at hgood hstage
  have hfirst : (s.modifyTicket p fun t => { t with applied := appliedAfter k n }) =
      withTicket s p { k with applied := appliedAfter k n } := State.modifyTicket_of_ticket hticket
  have hjudge : judgeSpray p k n s = _ := if_pos henough
  rw [hjudge]
  refine Prod.ext ?_ ?_
  · exact congrArg (fun m => answer (if 2000 < n then .clamped else .ok)
      [(2, m), (11, appliedAfter k n),
       (16, dryTargetOf (s.fabric.get k.fabric) (appliedAfter k n))]) (apply_ite sprayCode _ _ _)
  · refine congrArg (State.leaveSlot · p) ?_
    refine (congrArg (State.modifyTicket · p _) hfirst).trans (withTicket_modifyTicket.trans ?_)
    rw [hadvance]
    rfl

theorem judgeSpray_of_topup (hticket : s.ticket p = some k)
    (hshort : appliedAfter k n + (s.fabric.get k.fabric).underTol < k.dose)
    (hmore : k.sprays ≤ s.params.resprayLimit) :
    judgeSpray p k n s =
      (answer .topup [(10, max (k.dose - appliedAfter k n) s.params.minTopup), (3, k.sprays + 1)],
        withTicket s p { k with applied := appliedAfter k n, sprays := k.sprays + 1 }) := by
  have hfirst : (s.modifyTicket p fun t => { t with applied := appliedAfter k n }) =
      withTicket s p { k with applied := appliedAfter k n } := State.modifyTicket_of_ticket hticket
  have hjudge : judgeSpray p k n s = _ := (if_neg hshort.not_ge).trans (if_pos hmore)
  rw [hjudge]
  exact Prod.ext rfl ((congrArg (State.modifyTicket · p _) hfirst).trans withTicket_modifyTicket)

theorem judgeSpray_of_underdose (hticket : s.ticket p = some k) (hgood : k.disposition = .good)
    (hshort : appliedAfter k n + (s.fabric.get k.fabric).underTol < k.dose)
    (hlast : s.params.resprayLimit < k.sprays) :
    judgeSpray p k n s =
      (answer .ok [(2, 2), (11, appliedAfter k n)],
        ((withTicket s p { k with
            applied := appliedAfter k n, disposition := .spoiled,
            reason := some .underdose }).leaveSlot p).raise .garmentSpoiled
          [(6, p.val), (2, 0), (8, k.line.val), (3, 1)]) := by
  have hfirst : (s.modifyTicket p fun t => { t with applied := appliedAfter k n }) =
      withTicket s p { k with applied := appliedAfter k n } := State.modifyTicket_of_ticket hticket
  have hspoil := State.spoil_of_good (why := .underdose)
    (withTicket_ticket (s := s) (p := p) (k := { k with applied := appliedAfter k n })) hgood
  rw [withTicket_modifyTicket] at hspoil
  have hjudge : judgeSpray p k n s = _ := (if_neg hshort.not_ge).trans (if_neg hlast.not_ge)
  rw [hjudge]
  refine Prod.ext rfl ?_
  exact congrArg (State.leaveSlot · p)
    ((congrArg (State.spoil · p .underdose) hfirst).trans hspoil)

/-! ## The block's answer at each check of PRETREAT_DONE (R102) -/

theorem bodyPretreatDone_of_not_counted (hsel : s.params.platenCount ≤ sel.toNat) :
    bodyPretreatDone sel arg s = (answer0 .notFound, s) := by
  simp only [bodyPretreatDone, State.platenOf_eq_none hsel]

theorem bodyPretreatDone_of_elsewhere (hplaten : s.platenOf sel.toNat = some p)
    (hplace : s.location p ≠ .pretreatSlot) :
    bodyPretreatDone sel arg s = (answer0 .badState, s) := by
  simp only [bodyPretreatDone, hplaten, if_pos hplace]

theorem bodyPretreatDone_of_not_good (hplaten : s.platenOf sel.toNat = some p)
    (hplace : s.location p = .pretreatSlot) (hticket : s.ticket p = some k)
    (hgood : k.disposition ≠ .good) :
    bodyPretreatDone sel arg s = (answer0 .pass, s.leaveSlot p) := by
  simp only [bodyPretreatDone, hplaten, if_neg (not_not_intro hplace), hticket, if_neg hgood]

theorem bodyPretreatDone_of_good (hplaten : s.platenOf sel.toNat = some p)
    (hplace : s.location p = .pretreatSlot) (hticket : s.ticket p = some k)
    (hgood : k.disposition = .good) :
    bodyPretreatDone sel arg s = judgeSpray p k arg.toNat s := by
  simp only [bodyPretreatDone, hplaten, if_neg (not_not_intro hplace), hticket, if_pos hgood]

end

/-- Settles O36: a GOOD ticket's spray is enough, or short with a top-up left, or short without one. -/
theorem pretreatDone : Obligations.PretreatDone := by
  refine ⟨fun sel arg s hrecv hsel => takeFrame_answers hrecv rfl
    (bodyPretreatDone_of_not_counted hsel), ?_⟩
  intro sel arg s p hrecv hsel hcount put
  have hplaten : s.platenOf sel.toNat = some p := State.platenOf_eq_some hsel hcount
  refine ⟨fun hplace => takeFrame_answers hrecv rfl (bodyPretreatDone_of_elsewhere hplaten hplace), ?_⟩
  intro k hplace hticket row total held
  refine ⟨fun hvoid => takeFrame_answers hrecv rfl ?void, fun hgood hstage => ?judged⟩
  case void =>
    rw [bodyPretreatDone_of_not_good hplaten hplace hticket (by rw [hvoid]; decide),
      State.leaveSlot_of_ticket hticket]
    rfl
  case judged =>
    have hbody := bodyPretreatDone_of_good (arg := arg) hplaten hplace hticket hgood
    refine ⟨fun henough => takeFrame_answers hrecv rfl (hbody.trans ?enough),
      fun hshort hmore => takeFrame_answers hrecv rfl
        (hbody.trans (judgeSpray_of_topup hticket hshort hmore) |>.trans ?topup),
      fun hshort hlast => takeFrame_answers hrecv rfl (hbody.trans ?spoiled)⟩
    case enough =>
      rw [judgeSpray_of_good hticket hgood hstage henough, withTicket_leaveSlot]
      rfl
    case topup =>
      have hrecord : s.platens.get p =
          { s.platens.get p with location := .pretreatSlot } := by
        rw [← hplace]
        rfl
      refine Prod.ext rfl ?_
      exact congrArg (fun r : Platen => writtenRecord s p
        { r with ticket := some { k with applied := total, sprays := k.sprays + 1 } }) hrecord
    case spoiled =>
      rw [judgeSpray_of_underdose hticket hgood hshort hlast, withTicket_leaveSlot]
      rfl

end Sys2Proof.Machine
end

section
/-! PROOF. The stripe link: the handing of the link (R114, R116), STRIPE (R113), the completion of a send
(R115), STRIPE_CUT (R118) and PRINT_END (R119 to R121). -/

namespace Sys2Proof

theorem PerBed.set_set {α : Type} (t : PerBed α) (bed : Bed) (x y : α) :
    (t.set bed x).set bed y = t.set bed y := by
  cases bed <;> rfl

namespace Machine

/-! ## What a raise and a fault record leave alone -/

theorem State.raise_receiver (s : State) (k : NoticeKind) (d : List Field) (p : Port) :
    ((s.raise k d).ports.get p).receiver = (s.ports.get p).receiver := by
  by_cases hport : p = k.port
  · subst hport
    simp [State.raise, State.setNotice]
  · simp [State.raise, State.setNotice, hport]

section
variable (s : State) (side : Side) (f : AccessFlags) (o : FaultOrigin) (a : ArtIx) (g : SegIx)
  (x : AccessBlock) (bed : Bed)

/-- A fault record touches the side's record and its notice alone. -/
theorem State.recordFault_keeps :
    (s.recordFault side f o a g x bed).beds = s.beds ∧
      (s.recordFault side f o a g x bed).link = s.link ∧
      (s.recordFault side f o a g x bed).platens = s.platens ∧
      (s.recordFault side f o a g x bed).fabric = s.fabric ∧
      ∀ p, ((s.recordFault side f o a g x bed).ports.get p).receiver =
        (s.ports.get p).receiver := by
  rcases State.recordFault_cases s side f o a g x bed with h | ⟨r, d, -, h⟩ <;> rw [h]
  · exact ⟨rfl, rfl, rfl, rfl, fun _ => rfl⟩
  · exact ⟨rfl, rfl, rfl, rfl, fun p => State.raise_receiver _ _ _ p⟩

/-- The end of a run with a fault recorded writes the bed's session once. -/
theorem State.endStripeRun_recordFault (r : StripeRun) (out : StripeOutcome) :
    (s.recordFault side f o a g x bed).endStripeRun bed r out =
      ({ s.recordFault side f o a g x bed with
          beds := s.beds.set bed { s.beds.get bed with run := none } }).raise (.stripeEnd bed)
        [(9, r.sent), (1, 0), (2, stripeOutcomeCode out), (4, r.segment.val)] := by
  obtain ⟨hbeds, -⟩ := State.recordFault_keeps s side f o a g x bed
  simp only [State.endStripeRun, State.modifyBed, PerBed.modify, hbeds]

end

/-! ## One handing of the link (R114, R116) -/

section
variable {s : State} {bed : Bed} {r : StripeRun}

theorem State.runWaiting_iff :
    s.runWaiting bed = true ↔ ∃ r, (s.beds.get bed).run = some r ∧ r.sent < r.count := by
  unfold State.runWaiting
  split
  · next r hr => simp [hr]
  · next hr => simp [hr]

theorem otherBed_ne (bed : Bed) : otherBed bed ≠ bed := by cases bed <;> decide

theorem eq_or_eq_otherBed (x bed : Bed) : x = bed ∨ x = otherBed bed := by
  cases x <;> cases bed <;> decide

/-- The link goes to a waiting bed that was not the last served, or whose neighbour does not wait. -/
theorem State.handTo_eq_some (hwaits : s.runWaiting bed = true)
    (hturn : s.link.lastServed ≠ bed ∨ s.runWaiting (otherBed bed) = false) :
    s.handTo = some bed := by
  unfold State.handTo
  rcases eq_or_eq_otherBed s.link.lastServed bed with hlast | hlast
  · have hother := hturn.resolve_left (not_not_intro hlast)
    simp only [hlast, hother, hwaits, Bool.false_eq_true, if_false, if_true]
  · have hnext : otherBed s.link.lastServed = bed := by
      rw [hlast]
      cases bed <;> rfl
    simp only [hnext, hwaits, if_true]

theorem State.handTo_waits (hto : s.handTo = some bed) : s.runWaiting bed = true := by
  unfold State.handTo at hto
  dsimp only at hto
  split at hto
  · obtain rfl := Option.some.inj hto
    assumption
  · split at hto
    · obtain rfl := Option.some.inj hto
      assumption
    · exact absurd hto nofun

theorem State.handTo_eq_none (hnone : ∀ x, s.runWaiting x = false) : s.handTo = none := by
  simp only [State.handTo, hnone, Bool.false_eq_true, if_false]

theorem State.handOnce_of_sending (hsending : s.link.sending ≠ none) : s.handOnce = s := by
  obtain ⟨k, hk⟩ := Option.ne_none_iff_exists'.mp hsending
  simp only [State.handOnce, hk]

theorem State.handOnce_of_no_run (hnone : ∀ x, s.runWaiting x = false) : s.handOnce = s := by
  simp only [State.handOnce, State.handTo_eq_none hnone]
  split <;> rfl

theorem State.handOnce_of_handed (hfree : s.link.sending = none) (hto : s.handTo = some bed) :
    s.handOnce = s.judgeStep bed := by
  simp only [State.handOnce, hfree, hto]

theorem State.judgeStep_of_refused {f : AccessFlags} (hrun : (s.beds.get bed).run = some r)
    (hflags : accessFlags (s.segment (s.beds.get bed).artwork r.segment) .print false r.nextBlock = f)
    (hany : f.any = true) :
    s.judgeStep bed =
      (s.recordFault .print f .stripeBlock (s.beds.get bed).artwork r.segment r.nextBlock bed).endStripeRun
        bed r .lengthFault := by
  simp only [State.judgeStep, hrun, hflags, hany, if_true]

theorem State.judgeStep_of_granted (hrun : (s.beds.get bed).run = some r)
    (hflags : (accessFlags (s.segment (s.beds.get bed).artwork r.segment) .print false
      r.nextBlock).any = false) :
    s.judgeStep bed =
      { s with
        link := ⟨some ⟨bed, r.segment, r.nextBlock.recorded,
          (s.segment (s.beds.get bed).artwork r.segment).base + r.nextBlock.recorded⟩, bed⟩
        stripeOut := s.stripeOut ++ [.start (stripeHeader bed r.segment r.nextBlock.recorded)] } := by
  simp only [State.judgeStep, hrun, hflags, Bool.false_eq_true, if_false]
  rfl

/-- All that one handing can do: nothing, begin a send, or end a waiting run with a fault. -/
theorem State.handOnce_cases (s : State) :
    s.handOnce = s ∨
      (∃ k bed out, s.handOnce = { s with link := ⟨some k, bed⟩, stripeOut := out }) ∨
      ∃ bed r f x, s.link.sending = none ∧ s.runWaiting bed = true ∧
        s.handOnce =
          (s.recordFault .print f .stripeBlock (s.beds.get bed).artwork r.segment x bed).endStripeRun
            bed r .lengthFault := by
  by_cases hfree : s.link.sending = none
  · cases hto : s.handTo with
    | none => exact .inl (by simp only [State.handOnce, hfree, hto])
    | some bed =>
      have hwaits := State.handTo_waits hto
      obtain ⟨r, hrun, -⟩ := State.runWaiting_iff.mp hwaits
      rw [State.handOnce_of_handed hfree hto]
      cases hany : (accessFlags (s.segment (s.beds.get bed).artwork r.segment) .print false
          r.nextBlock).any with
      | true => exact .inr (.inr ⟨bed, r, _, _, hfree, hwaits, State.judgeStep_of_refused hrun rfl hany⟩)
      | false => exact .inr (.inl ⟨_, _, _, State.judgeStep_of_granted hrun hany⟩)
  · exact .inl (State.handOnce_of_sending hfree)

/-- After a refused step the bed's run is gone, the other bed is as it was and the link is free. -/
theorem State.endStripeRun_recordFault_waits (s : State) (bed : Bed) (r : StripeRun) (f : AccessFlags)
    (x : AccessBlock) (y : Bed) :
    ((s.recordFault .print f .stripeBlock (s.beds.get bed).artwork r.segment x bed).endStripeRun
        bed r .lengthFault).runWaiting y =
      if y = bed then false else s.runWaiting y := by
  rw [State.endStripeRun_recordFault]
  by_cases hb : y = bed
  · subst hb
    simp [State.runWaiting, State.raise, State.setNotice]
  · simp [State.runWaiting, State.raise, State.setNotice, hb]

/-- Two handings are the most it takes: each refused step ends a run (R116). -/
theorem State.handLink_handOnce (s : State) : s.handLink.handOnce = s.handLink := by
  have settled {t : State} (h : t.handOnce = t) : t.handOnce.handOnce = t.handOnce := by rw [h, h]
  have sends {t : State} {k : Sending} {bed : Bed} {out : List StripeOut} :
      ({ t with link := ⟨some k, bed⟩, stripeOut := out } : State).handOnce =
        { t with link := ⟨some k, bed⟩, stripeOut := out } :=
    State.handOnce_of_sending (Option.some_ne_none k)
  change s.handOnce.handOnce.handOnce = s.handOnce.handOnce
  rcases State.handOnce_cases s with h1 | ⟨k, bed, out, h1⟩ | ⟨b1, r1, f1, x1, -, -, h1⟩
  · rw [h1, h1]
    exact h1
  · rw [h1, sends, sends]
  · have hgone (y : Bed) : s.handOnce.runWaiting y = if y = b1 then false else s.runWaiting y := by
      rw [h1]
      exact State.endStripeRun_recordFault_waits ..
    rcases State.handOnce_cases s.handOnce with h2 | ⟨k, bed, out, h2⟩ | ⟨b2, r2, f2, x2, -, hw2, h2⟩
    · exact settled h2
    · rw [h2, sends]
    · have hne : b2 ≠ b1 := by
        rintro rfl
        rw [hgone, if_pos rfl] at hw2
        exact absurd hw2 nofun
      have hnone (y : Bed) : s.handOnce.handOnce.runWaiting y = false := by
        rw [h2, State.endStripeRun_recordFault_waits]
        split
        · rfl
        · next hb =>
          rw [hgone, if_pos]
          rcases eq_or_eq_otherBed y b2 with rfl | rfl
          · exact absurd rfl hb
          · exact ((eq_or_eq_otherBed b1 b2).resolve_left hne.symm).symm
      exact State.handOnce_of_no_run hnone

/-! ## The step of a run (R113, R114) -/

/-- The flags of a read by the print side, where it may read the segment (R63). -/
theorem accessFlags_print {d : Segment} {x : AccessBlock} (hres : d.resident = true)
    (hkey : d.printKey = .read) :
    accessFlags d .print false x = ⟨false, match x with
      | .block b => !d.authorizes b
      | .edge _ => true
      | .atOpen _ => false, false⟩ := by
  cases x <;> simp [accessFlags, Segment.keyAbsent, hres, hkey]

theorem stripeHeader_eq (bed : Bed) (g : SegIx) (b : Nat) :
    stripeHeader bed g b = BitVec.ofNat 24 (b % 256 + 256 * g.val + 65536 * bedCode bed) := by
  have hbed : bedCode bed < 2 := by cases bed <;> decide
  refine congrArg (BitVec.ofNat 24) ?_
  simp only [pack]
  omega

/-- A handed step in the authorized range begins its send. -/
theorem State.handOnce_of_granted {b : Nat} (hfree : s.link.sending = none) (hto : s.handTo = some bed)
    (hrun : (s.beds.get bed).run = some r) (hnext : r.nextBlock = .block b)
    (hres : (s.segment (s.beds.get bed).artwork r.segment).resident = true)
    (hkey : (s.segment (s.beds.get bed).artwork r.segment).printKey = .read)
    (hin : (s.segment (s.beds.get bed).artwork r.segment).authorizes b = true) :
    s.handOnce =
      { s with
        link := ⟨some ⟨bed, r.segment, b,
          (s.segment (s.beds.get bed).artwork r.segment).base + b⟩, bed⟩
        stripeOut := s.stripeOut ++
          [.start (BitVec.ofNat 24 (b % 256 + 256 * r.segment.val + 65536 * bedCode bed))] } := by
  have hany : (accessFlags (s.segment (s.beds.get bed).artwork r.segment) .print false
      r.nextBlock).any = false := by
    rw [hnext, accessFlags_print hres hkey]
    simp only [hin]
    rfl
  rw [State.handOnce_of_handed hfree hto, State.judgeStep_of_granted hrun hany, hnext, ← stripeHeader_eq]
  rfl

/-- A handed step outside the authorized range, or past an edge, ends its run with the fault recorded. -/
theorem State.handOnce_of_refused (hfree : s.link.sending = none) (hto : s.handTo = some bed)
    (hrun : (s.beds.get bed).run = some r)
    (hflags : accessFlags (s.segment (s.beds.get bed).artwork r.segment) .print false r.nextBlock =
      ⟨false, true, false⟩) :
    s.handOnce =
      ({ s.recordFault .print ⟨false, true, false⟩ .stripeBlock (s.beds.get bed).artwork r.segment
          r.nextBlock bed with
          beds := s.beds.set bed { s.beds.get bed with run := none } }).raise (.stripeEnd bed)
        [(9, r.sent), (1, 0), (2, 1), (4, r.segment.val)] := by
  rw [State.handOnce_of_handed hfree hto, State.judgeStep_of_refused hrun hflags rfl,
    State.endStripeRun_recordFault]
  rfl

end

/-- Settles O39: two handings settle the link, and the handed step is granted, out of range, or past an
edge. -/
theorem linkIsHandedAlternately : Obligations.LinkIsHandedAlternately := by
  refine ⟨fun s => ⟨rfl, State.handLink_handOnce s, State.handOnce_of_sending, fun hdone =>
    State.handOnce_of_no_run fun y => Bool.eq_false_iff.mpr fun hwaits => ?idle⟩, ?step⟩
  case idle =>
    obtain ⟨r, hrun, hlt⟩ := State.runWaiting_iff.mp hwaits
    exact absurd (hdone y r hrun) hlt.not_ge
  case step =>
    intro s bed r hfree hrun hmore hturn ses d inside b refusedAt
    have hto : s.handTo = some bed := by
      refine State.handTo_eq_some (State.runWaiting_iff.mpr ⟨r, hrun, hmore⟩)
        (hturn.imp_right fun hdone => Bool.eq_false_iff.mpr fun hwaits => ?_)
      obtain ⟨x, hx, hlt⟩ := State.runWaiting_iff.mp hwaits
      exact absurd (hdone x hx) hlt.not_ge
    have hinside (hin : inside) : r.nextBlock = .block b := by
      cases hdir : r.dir with
      | asc =>
        simp only [inside, hdir] at hin
        simp only [StripeRun.nextBlock, b, hdir, if_neg hin.not_gt]
      | desc =>
        simp only [inside, hdir] at hin
        simp only [StripeRun.nextBlock, b, hdir, if_neg hin.not_gt]
    refine ⟨fun hin hres hkey hlo hhi => State.handOnce_of_granted hfree hto hrun (hinside hin) hres hkey
      (Segment.authorizes_iff.mpr ⟨hlo, hhi⟩), fun hin hres hkey hout => ?range,
      fun hin hres hkey => ?edge⟩
    case range =>
      have hflags : accessFlags d .print false r.nextBlock = ⟨false, true, false⟩ := by
        rw [hinside hin, accessFlags_print hres hkey]
        simp only [Bool.eq_false_iff.mpr (mt Segment.authorizes_iff.mp hout)]
        rfl
      have hstep := State.handOnce_of_refused hfree hto hrun hflags
      rw [hinside hin] at hstep
      exact hstep
    case edge =>
      have hedge : r.nextBlock = .edge (match r.dir with | .asc => 255 | .desc => 0) := by
        cases hdir : r.dir with
        | asc =>
          simp only [inside, hdir] at hin
          simp only [StripeRun.nextBlock, hdir, if_pos (Nat.not_le.mp hin)]
        | desc =>
          simp only [inside, hdir] at hin
          simp only [StripeRun.nextBlock, hdir, if_pos (Nat.not_le.mp hin)]
      have hflags : accessFlags d .print false r.nextBlock = ⟨false, true, false⟩ := by
        rw [hedge, accessFlags_print hres hkey]
      have hstep := State.handOnce_of_refused hfree hto hrun hflags
      rw [hedge] at hstep
      exact hstep

end Machine

end Sys2Proof
end

section
/-! PROOF. The commands of a print session: STRIPE (R113), STRIPE_SEND_COMPLETE (R115), STRIPE_CUT (R118)
and PRINT_END (R119 to R121). -/

namespace Sys2Proof.Machine

open Sys2Proof

section
variable {s u : State} {bed : Bed} {r : StripeRun} {sel : Selector} {arg : Arg}

/-! ## Where the link stands (R116, R183) -/

theorem State.handLink_of_sending (hsending : s.link.sending ≠ none) : s.handLink = s := by
  rw [State.handLink, State.handOnce_of_sending hsending, State.handOnce_of_sending hsending]

theorem State.idleFrom_of_sending (hsending : s.link.sending ≠ none) : u.idleFrom s = idleAgain u := by
  have hbefore : s.link.sending.isSome = true := Option.isSome_iff_ne_none.mpr hsending
  simp only [State.idleFrom, idleAgain, hbefore, Bool.true_and, Option.isNone_iff_eq_none]
  rfl

theorem State.idleFrom_of_free (hfree : s.link.sending = none) : u.idleFrom s = u := by
  simp only [State.idleFrom, hfree, Option.isSome_none, Bool.false_and, Bool.false_eq_true, if_false]

theorem State.idleFrom_of_unfree (hsending : u.link.sending ≠ none) : u.idleFrom s = u := by
  have hafter : u.link.sending.isNone = false :=
    Bool.eq_false_iff.mpr (mt Option.isNone_iff_eq_none.mp hsending)
  simp only [State.idleFrom, hafter, Bool.and_false, Bool.false_eq_true, if_false]

/-! ## STRIPE (R113) -/

theorem State.sessionGood_iff :
    s.sessionGood bed = true ↔
      ∃ k, s.ticket (s.beds.get bed).platen = some k ∧ k.disposition = .good := by
  unfold State.sessionGood
  split
  · next k hk => simp [hk]
  · next hk => simp [hk]

/-- The flags of a run's open by the print side (R63, R113). -/
theorem accessFlags_stripe_open (d : Segment) (n : Nat) :
    accessFlags d .print false (.atOpen n) = ⟨!d.resident || d.printKey == .absent, false, false⟩ := by
  simp [accessFlags, Segment.keyAbsent]

/-- The run that a STRIPE's argument opens (section 11.4). -/
def stripeRunOf (arg : Arg) : StripeRun :=
  ⟨segAt arg 28, if arg.getLsbD 11 then .desc else .asc, bitsAt arg 20 8, bitsAt arg 12 8 + 1, 0, 0⟩

theorem bodyStripe_of_no_bed (hsel : 2 ≤ sel.toNat) : bodyStripe sel arg s = (answer0 .notFound, s) := by
  simp only [bodyStripe, bedOf_eq_none hsel]

theorem bodyStripe_of_idle (hbed : bedOf sel.toNat = some bed) (hidle : (s.beds.get bed).active = false) :
    bodyStripe sel arg s = (answer0 .badState, s) := by
  simp only [bodyStripe, hbed, if_pos hidle]

theorem bodyStripe_of_run (hbed : bedOf sel.toNat = some bed) (hactive : (s.beds.get bed).active = true)
    (hrun : (s.beds.get bed).run.isSome = true) : bodyStripe sel arg s = (answer0 .busy, s) := by
  simp only [bodyStripe, hbed, hactive, Bool.true_eq_false, if_false, if_pos hrun]

theorem bodyStripe_of_not_good (hbed : bedOf sel.toNat = some bed)
    (hactive : (s.beds.get bed).active = true) (hrun : (s.beds.get bed).run = none)
    (hgood : s.sessionGood bed = false) : bodyStripe sel arg s = (answer0 .pass, s) := by
  simp only [bodyStripe, hbed, hactive, hrun, Bool.true_eq_false, Option.isSome_none,
    Bool.false_eq_true, if_false, if_pos hgood]

theorem bodyStripe_of_checked (hbed : bedOf sel.toNat = some bed)
    (hactive : (s.beds.get bed).active = true) (hrun : (s.beds.get bed).run = none)
    (hgood : s.sessionGood bed = true) :
    bodyStripe sel arg s =
      if (accessFlags (s.segment (s.beds.get bed).artwork (segAt arg 28)) .print false
          (.atOpen (bitsAt arg 20 8))).any then
        (answer0 .fault, s.recordFault .print
          (accessFlags (s.segment (s.beds.get bed).artwork (segAt arg 28)) .print false
            (.atOpen (bitsAt arg 20 8)))
          .stripeOpen (s.beds.get bed).artwork (segAt arg 28) (.atOpen (bitsAt arg 20 8)) bed)
      else (answer .ok [(9, bitsAt arg 12 8 + 1)],
        (s.modifyBed bed fun k => { k with run := some (stripeRunOf arg) }).handLink) := by
  simp only [bodyStripe, hbed, hactive, hrun, hgood, Bool.true_eq_false, Option.isSome_none,
    Bool.false_eq_true, if_false]
  rfl

end

/-- Settles O38: a good STRIPE's run is handed the link at once where it is free and no other run
waits. -/
theorem stripeOpens : Obligations.StripeOpens := by
  intro sel arg s hrecv put
  refine ⟨fun hsel => takeFrame_answers hrecv rfl (bodyStripe_of_no_bed hsel), fun bed hsel => ?_⟩
  have hbed : bedOf sel.toNat = some bed := by rw [hsel, bedOf_bedCode]
  intro ses g first count d good run opened
  have hgood : s.sessionGood bed = true ↔ good := State.sessionGood_iff
  refine ⟨fun hidle => takeFrame_answers hrecv rfl (bodyStripe_of_idle hbed hidle),
    fun hactive hrun => takeFrame_answers hrecv rfl
      (bodyStripe_of_run hbed hactive (Option.isSome_iff_ne_none.mpr hrun)),
    fun hactive hrun hbad => takeFrame_answers hrecv rfl
      (bodyStripe_of_not_good hbed hactive hrun (Bool.eq_false_iff.mpr (mt hgood.mp hbad))),
    fun hactive hrun hok hno => takeFrame_answers hrecv rfl
      ((bodyStripe_of_checked hbed hactive hrun (hgood.mpr hok)).trans ?fault),
    fun hactive hrun hok hres hkey => ?opens⟩
  case fault =>
    have hflags : accessFlags d .print false (.atOpen first) = ⟨true, false, false⟩ := by
      rw [accessFlags_stripe_open]
      rcases hno with h | h <;> simp [h]
    have hany : (accessFlags d .print false (.atOpen first)).any = true := by rw [hflags]; rfl
    exact (if_pos hany).trans (congrArg
      (fun f => (answer0 .fault, s.recordFault .print f .stripeOpen ses.artwork g (.atOpen first) bed))
      hflags)
  case opens =>
    have hany : ¬ (accessFlags d .print false (.atOpen first)).any = true := by
      rw [accessFlags_stripe_open, hres, hkey]
      exact Bool.false_ne_true
    have hcount : packWord [(9, count)] = BitVec.ofNat 32 count :=
      packWord_singleton (by
        have hlen : bitsAt arg 12 8 < 256 := bitsAt_lt arg 12 8
        change bitsAt arg 12 8 + 1 < 512
        omega)
    have hopened : put opened.handLink ⟨.ok, BitVec.ofNat 32 count⟩ := by
      refine takeFrame_answers hrecv rfl
        ((bodyStripe_of_checked hbed hactive hrun (hgood.mpr hok)).trans ((if_neg hany).trans ?_))
      rw [answer, ← hcount]
      rfl
    refine ⟨hopened, fun hsending => ?_, fun hfree hother hlo hhi => ?_⟩
    · rw [State.handLink_of_sending (s := opened) hsending] at hopened
      exact hopened
    · have hfirst : first < 256 := bitsAt_lt arg 20 8
      have hsession : opened.beds.get bed = { ses with run := some run } := PerBed.get_set_self ..
      have hwaits : opened.runWaiting bed = true :=
        State.runWaiting_iff.mpr ⟨run, by rw [hsession], Nat.succ_pos _⟩
      have hto : opened.handTo = some bed := by
        refine State.handTo_eq_some hwaits (.inr (Bool.eq_false_iff.mpr fun h => ?_))
        obtain ⟨x, hx, -⟩ := State.runWaiting_iff.mp h
        have hsame : opened.beds.get (otherBed bed) = s.beds.get (otherBed bed) :=
          PerBed.get_set_ne _ _ (otherBed_ne bed)
        rw [hsame, hother] at hx
        exact absurd hx nofun
      have hnext : run.nextBlock = .block first := by
        unfold StripeRun.nextBlock
        split
        · exact if_neg (show ¬ 255 < first + 0 by omega)
        · exact if_neg (Nat.not_lt_zero first)
      have hartwork : (opened.beds.get bed).artwork = ses.artwork := by rw [hsession]
      have hstep := State.handOnce_of_granted (s := opened) hfree hto (by rw [hsession]) hnext
        (by rw [hartwork]; exact hres) (by rw [hartwork]; exact hkey)
        (by rw [hartwork]; exact Segment.authorizes_iff.mpr ⟨hlo, hhi⟩)
      have hlink : opened.handLink = _ := (congrArg State.handOnce hstep).trans
        (State.handOnce_of_sending (Option.some_ne_none _))
      rw [hlink, hartwork, Nat.mod_eq_of_lt hfirst] at hopened
      exact hopened

/-! ## The completion of a send (R115) and the cut of a run (R118) -/

section
variable {s u : State} {bed : Bed} {r : StripeRun} {k : Sending} {sel : Selector} {arg : Arg}

/-- The state with a send completed and the run of its bed left as `run`. -/
def sendCompleted (s : State) (k : Sending) (run : Option StripeRun) : State :=
  { s with
    link := { s.link with sending := none }
    stripeOut := s.stripeOut ++ [.data (s.storeBlock k.store), .endMark]
    beds := s.beds.set k.bed
      { s.beds.get k.bed with sent := min 65535 ((s.beds.get k.bed).sent + 1), run := run } }

theorem State.completeSend_of_run (hsending : s.link.sending = some k)
    (hrun : (s.beds.get k.bed).run = some r) :
    s.completeSend k =
      idleAgain
        (if r.sent + 1 = r.count then
          (sendCompleted s k none).raise (.stripeEnd k.bed)
            [(9, r.sent + 1), (1, 0), (2, 0), (4, r.segment.val)]
        else sendCompleted s k (some { r with sent := r.sent + 1, nextStep := r.nextStep + 1 })).handLink := by
  have hbefore : s.link.sending ≠ none := by rw [hsending]; exact Option.some_ne_none k
  simp only [State.completeSend, hrun, State.idleFrom_of_sending hbefore]
  by_cases hlast : r.sent + 1 = r.count
  · simp only [if_pos hlast, State.endStripeRun, State.modifyBed, State.transmit, PerBed.modify,
      PerBed.get_set_self, PerBed.set_set]
    rfl
  · simp only [if_neg hlast, State.modifyBed, State.transmit, PerBed.modify,
      PerBed.get_set_self, PerBed.set_set]
    rfl

theorem State.storeBlock_take (s : State) (b n : Nat) :
    (s.storeBlock b).take n = (s.storeBlock b).take (min n 1024) := by
  have hlen : (s.storeBlock b).length = 1024 := by
    rw [State.storeBlock, List.length_map, List.length_finRange]
  rw [List.take_eq_take_min, hlen]

/-- A cut is one at some number of words up to a block's (R118; log 5). -/
theorem State.cutRun_eq_cutAt (s : State) (bed : Bed) (r : StripeRun) :
    ∃ n, n ≤ 1024 ∧ s.cutRun bed r = cutAt s bed r n := by
  refine ⟨min (Config.wordsOut s.stripeOut.length) 1024, Nat.min_le_right _ _, ?_⟩
  cases hsending : s.link.sending with
  | none =>
    have hcut : s.cutSend bed = s := by simp only [State.cutSend, hsending]
    simp only [cutAt, hsending, State.cutRun, hcut]
    exact State.idleFrom_of_free hsending
  | some k =>
    by_cases hbed : k.bed = bed
    · have hbefore : s.link.sending ≠ none := by rw [hsending]; exact Option.some_ne_none k
      simp only [cutAt, hsending, if_pos hbed, State.cutRun, State.idleFrom_of_sending hbefore,
        State.cutSend, State.cutWords, State.storeBlock_take s k.store (Config.wordsOut _)]
      rfl
    · have hcut : s.cutSend bed = s := by simp only [State.cutSend, hsending, if_neg hbed]
      have hafter : (s.endStripeRun bed r .cut).link.sending ≠ none := by
        change s.link.sending ≠ none
        rw [hsending]
        exact Option.some_ne_none k
      simp only [cutAt, hsending, if_neg hbed, State.cutRun, hcut]
      rw [State.handLink_of_sending hafter, State.idleFrom_of_unfree hafter, cutRecord]
      exact (State.handLink_of_sending hafter).symm

theorem bodyStripeCut_of_no_bed (hsel : 2 ≤ sel.toNat) :
    bodyStripeCut sel s = (answer0 .notFound, s) := by
  simp only [bodyStripeCut, bedOf_eq_none hsel]

theorem bodyStripeCut_of_no_run (hbed : bedOf sel.toNat = some bed)
    (hrun : (s.beds.get bed).run = none) : bodyStripeCut sel s = (answer0 .none, s) := by
  simp only [bodyStripeCut, hbed, hrun]

theorem bodyStripeCut_of_run (hbed : bedOf sel.toNat = some bed)
    (hrun : (s.beds.get bed).run = some r) :
    bodyStripeCut sel s = (answer .ok [(9, r.sent)], s.cutRun bed r) := by
  simp only [bodyStripeCut, hbed, hrun]

end

/-- Settles O40: a completed send is its run's last or not; a cut meets the bed's own send or not. -/
theorem sendCompletesOrIsCut : Obligations.SendCompletesOrIsCut := by
  intro s
  refine ⟨fun hfree => ?none, fun k r hsending hrun => ?send, fun hrecv sel =>
    ⟨fun hsel => takeFrame_answers hrecv rfl (bodyStripeCut_of_no_bed hsel), fun bed hsel => ?cut⟩⟩
  case none =>
    change execStripeSendComplete s = _
    simp only [execStripeSendComplete, hfree]
  case send =>
    have hexec : exec .stripeSendComplete s = .next (s.completeSend k) := by
      change execStripeSendComplete s = _
      simp only [execStripeSendComplete, hsending]
    rw [State.completeSend_of_run hsending hrun] at hexec
    intro ses r2 sent with_
    refine ⟨fun hmore => ?_, fun hlast => ?_⟩
    · rw [if_neg hmore] at hexec
      exact hexec
    · rw [if_pos hlast] at hexec
      exact hexec
  case cut =>
    have hbed : bedOf sel.toNat = some bed := by rw [hsel, bedOf_bedCode]
    refine ⟨fun hrun => takeFrame_answers hrecv rfl (bodyStripeCut_of_no_run hbed hrun),
      fun r hrun => ?_⟩
    obtain ⟨n, hn, hcut⟩ := State.cutRun_eq_cutAt s bed r
    exact ⟨n, hn, takeFrame_answers hrecv rfl (hcut ▸ bodyStripeCut_of_run hbed hrun)⟩

end Sys2Proof.Machine
end

section
/-! PROOF. PRINT_END (R119 to R121): what a cut leaves alone, and the end of a session by the ticket. -/

namespace Sys2Proof.Machine

open Sys2Proof

section
variable {s u : State} {bed : Bed} {r : StripeRun} {k : Ticket} {p : PlatenIx} {sel : Selector}
  {arg : Arg}

/-! ## What a cut leaves alone (R116, R118) -/

/-- The parts of the state that a cut of the bed's run, once its record is gone, leaves alone. -/
structure BedKept (s t : State) (bed : Bed) : Prop where
  beds : t.beds.get bed = s.beds.get bed
  platens : t.platens = s.platens
  receiver : ∀ q, (t.ports.get q).receiver = (s.ports.get q).receiver

theorem BedKept.trans {s t v : State} (h : BedKept s t bed) (h' : BedKept t v bed) :
    BedKept s v bed :=
  ⟨h'.beds.trans h.beds, h'.platens.trans h.platens, fun q => (h'.receiver q).trans (h.receiver q)⟩

theorem State.handOnce_bedKept (hrun : (s.beds.get bed).run = none) : BedKept s s.handOnce bed := by
  rcases State.handOnce_cases s with h | ⟨k, b', out, h⟩ | ⟨b', r', f, x, -, hwaits, h⟩
  · rw [h]
    exact ⟨rfl, rfl, fun _ => rfl⟩
  · rw [h]
    exact ⟨rfl, rfl, fun _ => rfl⟩
  · have hne : bed ≠ b' := by
      rintro rfl
      obtain ⟨x, hx, -⟩ := State.runWaiting_iff.mp hwaits
      rw [hrun] at hx
      exact absurd hx nofun
    obtain ⟨-, -, hplatens, -, hreceiver⟩ := State.recordFault_keeps s .print f .stripeBlock
      (s.beds.get b').artwork r'.segment x b'
    rw [h, State.endStripeRun_recordFault]
    exact ⟨PerBed.get_set_ne _ _ hne, hplatens,
      fun q => (State.raise_receiver _ _ _ q).trans (hreceiver q)⟩

theorem State.handLink_bedKept (hrun : (s.beds.get bed).run = none) : BedKept s s.handLink bed := by
  have hfirst := State.handOnce_bedKept hrun
  exact hfirst.trans (State.handOnce_bedKept (by rw [hfirst.beds, hrun]))

theorem idleAgain_bedKept (s : State) (bed : Bed) : BedKept s (idleAgain s) bed := by
  unfold idleAgain
  split <;> exact ⟨rfl, rfl, fun _ => rfl⟩

/-- The cut's record: the run is gone and the rest of the session, the platens and the receivers stand. -/
theorem cutRecord_bedKept (u : State) (bed : Bed) (r : StripeRun) :
    BedKept { u with beds := u.beds.set bed { u.beds.get bed with run := none } }
      (cutRecord u bed r) bed := by
  have hraise : BedKept { u with beds := u.beds.set bed { u.beds.get bed with run := none } }
      (({ u with beds := u.beds.set bed { u.beds.get bed with run := none } }).raise (.stripeEnd bed)
        [(9, r.sent), (1, 0), (2, 2), (4, r.segment.val)]) bed :=
    ⟨rfl, rfl, fun q => State.raise_receiver _ _ _ q⟩
  refine hraise.trans (State.handLink_bedKept ?_)
  change ((u.beds.set bed { u.beds.get bed with run := none }).get bed).run = none
  rw [PerBed.get_set_self]

theorem cutAt_bedKept (s : State) (bed : Bed) (r : StripeRun) (n : Nat) :
    BedKept { s with beds := s.beds.set bed { s.beds.get bed with run := none } } (cutAt s bed r n)
      bed := by
  unfold cutAt
  split
  · split
    · refine BedKept.trans ?_ (idleAgain_bedKept _ bed)
      exact ⟨(cutRecord_bedKept _ bed r).beds, (cutRecord_bedKept _ bed r).platens,
        (cutRecord_bedKept _ bed r).receiver⟩
    · exact cutRecord_bedKept s bed r
  · exact cutRecord_bedKept s bed r

theorem cutAt_session (s : State) (bed : Bed) (r : StripeRun) (n : Nat) :
    (cutAt s bed r n).beds.get bed = { s.beds.get bed with run := none } :=
  (cutAt_bedKept s bed r n).beds.trans (PerBed.get_set_self ..)

theorem cutAt_ticket (s : State) (bed : Bed) (r : StripeRun) (n : Nat) (p : PlatenIx) :
    (cutAt s bed r n).ticket p = s.ticket p := by
  simp only [State.ticket, (cutAt_bedKept s bed r n).platens]

theorem cutAt_inFrame {n : Nat} (hrecv : s.inFrame .print) : (cutAt s bed r n).inFrame .print := by
  change ((cutAt s bed r n).ports.get .print).receiver.isSome = true
  rw [(cutAt_bedKept s bed r n).receiver]
  exact hrecv

/-! ## The end of a session (R119 to R121) -/

theorem State.closeSession_written (q : Platen) (hplaten : (s.beds.get bed).platen = p) :
    ({ s with platens := s.platens.set p q } : State).closeSession bed =
      { s with
        platens := s.platens.set p { q with location := .transit }
        beds := s.beds.set bed ⟨false, 0, 0, 0, 0, none⟩ } := by
  subst hplaten
  simp only [State.closeSession, State.setLocation, State.modifyPlaten, State.modifyBed, Table.modify,
    Table.get_set_self, Table.set_set]
  rfl

theorem State.closeSession_of_ticket (hplaten : (s.beds.get bed).platen = p)
    (hticket : s.ticket p = some k) :
    s.closeSession bed =
      { s with
        platens := s.platens.set p { s.platens.get p with location := .transit, ticket := some k }
        beds := s.beds.set bed ⟨false, 0, 0, 0, 0, none⟩ } := by
  subst hplaten
  have hrecord : (s.platens.get (s.beds.get bed).platen).ticket = some k := hticket
  simp only [State.closeSession, State.setLocation, State.modifyPlaten, Table.modify, ← hrecord]
  rfl

theorem bodyPrintEnd_of_no_bed (hsel : 2 ≤ sel.toNat) :
    bodyPrintEnd sel arg s = (answer0 .notFound, s) := by
  simp only [bodyPrintEnd, bedOf_eq_none hsel]

theorem bodyPrintEnd_of_idle (hbed : bedOf sel.toNat = some bed)
    (hidle : (s.beds.get bed).active = false) : bodyPrintEnd sel arg s = (answer0 .badState, s) := by
  simp only [bodyPrintEnd, hbed, if_pos hidle]

/-- What PRINT_END does once an open run is cut, by the ticket of the session's platen. -/
def endSession (arg : Arg) (bed : Bed) (ses : Session) (u : State) : Answer × State :=
  match u.ticket ses.platen with
  | some t =>
    if t.disposition = .good then
      if arg.getLsbD 0 then
        (answer .ok (printEndFields 0 ses.sent 1), (u.spoil ses.platen .printFailed).closeSession bed)
      else
        (answer .ok (printEndFields (cureTargetOf (u.fabric.get t.fabric) t.lc t.lw t.applied)
            ses.sent 0),
          (u.modifyTicket ses.platen fun t' =>
            { t'.advance .printing .printed with
              cureTarget := some (cureTargetOf (u.fabric.get t.fabric) t.lc t.lw t.applied) }).closeSession
            bed)
    else (answer .pass (printEndFields 0 ses.sent 2), u.closeSession bed)
  | none => (answer .pass (printEndFields 0 ses.sent 2), u.closeSession bed)

theorem bodyPrintEnd_of_active (hbed : bedOf sel.toNat = some bed)
    (hactive : (s.beds.get bed).active = true) :
    bodyPrintEnd sel arg s = endSession arg bed (s.beds.get bed) (s.cutForEnd bed) := by
  simp only [bodyPrintEnd, hbed, hactive, Bool.true_eq_false, if_false]
  rfl

theorem State.cutForEnd_of_no_run (hrun : (s.beds.get bed).run = none) : s.cutForEnd bed = s := by
  simp only [State.cutForEnd, hrun]

theorem State.cutForEnd_of_run (hrun : (s.beds.get bed).run = some r) :
    s.cutForEnd bed = s.cutRun bed r := by
  simp only [State.cutForEnd, hrun]

/-- A session that is the same but for its run ends the same. -/
theorem endSession_of_run_cut (ses : Session) :
    endSession arg bed { ses with run := none } u = endSession arg bed ses u := rfl

theorem endSession_of_printed {ses : Session} (hses : s.beds.get bed = ses)
    (hticket : s.ticket ses.platen = some k) (hgood : k.disposition = .good)
    (hstage : k.stage = .printing) (hok : arg.getLsbD 0 = false) :
    endSession arg bed ses s =
      (answer .ok (printEndFields (cureTargetOf (s.fabric.get k.fabric) k.lc k.lw k.applied) ses.sent 0),
        { s with
          platens := s.platens.set ses.platen
            { s.platens.get ses.platen with
              location := .transit
              ticket := some { k with
                stage := .printed
                cureTarget := some (cureTargetOf (s.fabric.get k.fabric) k.lc k.lw k.applied) } }
          beds := s.beds.set bed ⟨false, 0, 0, 0, 0, none⟩ }) := by
  simp only [endSession, hticket, if_pos hgood, hok, Bool.false_eq_true, if_false,
    State.modifyTicket_of_ticket hticket, Ticket.advance_of_at hgood hstage]
  rw [State.closeSession_written _ (by rw [hses])]

theorem endSession_of_failed {ses : Session} (hses : s.beds.get bed = ses)
    (hticket : s.ticket ses.platen = some k) (hgood : k.disposition = .good)
    (hfailed : arg.getLsbD 0 = true) :
    endSession arg bed ses s =
      (answer .ok (printEndFields 0 ses.sent 1),
        ({ s with
            platens := s.platens.set ses.platen
              { s.platens.get ses.platen with
                location := .transit
                ticket := some { k with disposition := .spoiled, reason := some .printFailed } }
            beds := s.beds.set bed ⟨false, 0, 0, 0, 0, none⟩ }).raise .garmentSpoiled
          [(6, ses.platen.val), (2, 0), (8, k.line.val), (3, 3)]) := by
  have hclosed := State.closeSession_written (s := s) (bed := bed) (p := ses.platen)
    { s.platens.get ses.platen with
      ticket := some { k with disposition := .spoiled, reason := some .printFailed } } (by rw [hses])
  simp only [endSession, hticket, if_pos hgood, hfailed, if_true, State.spoil_of_good hticket hgood,
    State.modifyTicket_of_ticket hticket]
  exact congrArg (fun t => (answer .ok (printEndFields 0 ses.sent 1),
    t.raise .garmentSpoiled [(6, ses.platen.val), (2, 0), (8, k.line.val), (3, 3)])) hclosed

theorem endSession_of_not_good {ses : Session} (hses : s.beds.get bed = ses)
    (hticket : s.ticket ses.platen = some k) (hgood : k.disposition ≠ .good) :
    endSession arg bed ses s =
      (answer .pass (printEndFields 0 ses.sent 2),
        { s with
          platens := s.platens.set ses.platen
            { s.platens.get ses.platen with location := .transit, ticket := some k }
          beds := s.beds.set bed ⟨false, 0, 0, 0, 0, none⟩ }) := by
  simp only [endSession, hticket, if_neg hgood]
  rw [State.closeSession_of_ticket (by rw [hses]) hticket]

end

/-- Settles O41: the cut leaves the session, the platens and the frame, so that the rest runs on the
state it leaves. -/
theorem printEnd : Obligations.PrintEnd := by
  intro sel arg s hrecv put
  refine ⟨fun hsel => takeFrame_answers hrecv rfl (bodyPrintEnd_of_no_bed hsel), fun bed hsel => ?_⟩
  have hbed : bedOf sel.toNat = some bed := by rw [hsel, bedOf_bedCode]
  intro ses p
  refine ⟨fun hidle => takeFrame_answers hrecv rfl (bodyPrintEnd_of_idle hbed hidle),
    fun r hactive hrun => ?cut, fun k hactive hrun hticket => ?ends⟩
  case cut =>
    obtain ⟨n, hn, hcut⟩ := State.cutRun_eq_cutAt s bed r
    have hses := cutAt_session s bed r n
    have hframe : (cutAt s bed r n).inFrame .print := cutAt_inFrame hrecv
    refine ⟨n, hn, ?_, hframe, hses, cutAt_ticket s bed r n p⟩
    have hbefore : bodyPrintEnd sel arg s = endSession arg bed ses (cutAt s bed r n) := by
      rw [bodyPrintEnd_of_active hbed hactive, State.cutForEnd_of_run hrun, hcut]
    have hafter : bodyPrintEnd sel arg (cutAt s bed r n) = endSession arg bed ses (cutAt s bed r n) := by
      rw [bodyPrintEnd_of_active hbed (by rw [hses]; exact hactive),
        State.cutForEnd_of_no_run (by rw [hses]), hses, endSession_of_run_cut]
    have h1 : exec (.printEnd sel arg) s = _ := takeFrame_answers hrecv rfl hbefore
    have h2 : exec (.printEnd sel arg) (cutAt s bed r n) = _ := takeFrame_answers hframe rfl hafter
    rw [h1, h2]
  case ends =>
    have hbody := bodyPrintEnd_of_active (arg := arg) hbed hactive
    rw [State.cutForEnd_of_no_run hrun] at hbody
    intro ended row target
    exact ⟨fun hgood hstage hok => takeFrame_answers hrecv rfl
        (hbody.trans (endSession_of_printed rfl hticket hgood hstage hok)),
      fun hgood hfailed => takeFrame_answers hrecv rfl
        (hbody.trans (endSession_of_failed rfl hticket hgood hfailed)),
      fun hvoid => takeFrame_answers hrecv rfl
        (hbody.trans (endSession_of_not_good rfl hticket (by rw [hvoid]; decide)))⟩

end Sys2Proof.Machine
end

section
/-! PROOF. The Press Arbiter's shared work: selection (R129, R130), grants (R131, R132), the settling of an
event (R142) and the posting of assignments (R133). -/

namespace Sys2Proof.Machine

open Sys2Proof

/-! ## The order in which the lists have their turns (R129, R130) -/

/-- The lists in the order of their turns in ROTATE mode (R129). -/
def rotation (s : State) : List RackList :=
  let dry : List RackList := match s.level2 with
    | .dryRush => [.dryStd, .dryRush]
    | .dryStd => [.dryRush, .dryStd]
  match s.level1 with
  | .cureRush => .cureStd :: dry ++ [.cureRush]
  | .cureStd => dry ++ [.cureRush, .cureStd]
  | .dryGroup => .cureRush :: .cureStd :: dry

/-- The list holds a platen. -/
def waits (s : State) (l : RackList) : Bool := !(s.lists.get l).isEmpty

section
variable {s : State} {l : RackList}

theorem waits_iff : waits s l = true ↔ s.lists.get l ≠ [] := by
  simp [waits]

theorem selectDry_eq_find :
    selectDry s = (match s.level2 with
      | .dryRush => [RackList.dryStd, .dryRush]
      | .dryStd => [.dryRush, .dryStd]).find? (waits s) := by
  cases hlevel : s.level2 <;>
    simp only [selectDry, hlevel, List.find?_cons, List.find?_nil, waits, PerList.get] <;>
    cases s.lists.dryRush.isEmpty <;> cases s.lists.dryStd.isEmpty <;> rfl

theorem selectRotate_eq_find : selectRotate s = (rotation s).find? (waits s) := by
  have hrush : waits s .cureRush = !s.lists.cureRush.isEmpty := rfl
  have hstd : waits s .cureStd = !s.lists.cureStd.isEmpty := rfl
  cases hlevel : s.level1 <;>
    simp only [selectRotate, rotation, hlevel, selectDry_eq_find, List.find?_cons, List.find?_append,
      List.find?_nil, List.cons_append, hrush, hstd] <;>
    cases s.lists.cureRush.isEmpty <;> cases s.lists.cureStd.isEmpty <;> simp

theorem selectFixed_eq_find :
    selectFixed s = [RackList.cureRush, .cureStd, .dryRush, .dryStd].find? (waits s) := by
  simp only [selectFixed, List.find?_cons, List.find?_nil, waits, PerList.get]
  cases s.lists.cureRush.isEmpty <;> cases s.lists.cureStd.isEmpty <;>
    cases s.lists.dryRush.isEmpty <;> cases s.lists.dryStd.isEmpty <;> rfl

/-- The lists in the order in which the mode takes them. -/
def selectionOrder (s : State) : List RackList :=
  match s.press.mode with
  | .rotate => rotation s
  | .fixed => [.cureRush, .cureStd, .dryRush, .dryStd]

theorem selectList_eq_find : selectList s = (selectionOrder s).find? (waits s) := by
  cases hmode : s.press.mode <;> simp only [selectList, selectionOrder, hmode]
  · exact selectRotate_eq_find
  · exact selectFixed_eq_find

theorem mem_selectionOrder (s : State) (l : RackList) : l ∈ selectionOrder s := by
  cases hmode : s.press.mode <;> simp only [selectionOrder, hmode]
  · cases hone : s.level1 <;> cases htwo : s.level2 <;> cases l <;>
      simp only [rotation, hone, htwo] <;> decide
  · cases l <;> decide

/-- In ROTATE mode the lists stand in the order of their turns. -/
theorem rotation_sorted (s : State) : (rotation s).Pairwise (turn s · < turn s ·) := by
  cases hone : s.level1 <;> cases htwo : s.level2 <;>
    simp only [rotation, turn, hone, htwo] <;> decide

/-- Of a sorted order, the search finds the waiting list whose key is the least. -/
theorem find?_waits_of_least {key : RackList → Nat} {order : List RackList}
    (hsorted : order.Pairwise (key · < key ·)) (hl : l ∈ order) (hwaits : s.lists.get l ≠ [])
    (hleast : ∀ x, s.lists.get x ≠ [] → key l ≤ key x) : order.find? (waits s) = some l := by
  obtain ⟨pre, post, rfl⟩ := List.append_of_mem hl
  refine find?_append_of_first (waits_iff.mpr hwaits) fun x hx hw => ?_
  have hbefore : key x < key l := (List.pairwise_append.mp hsorted).2.2 x hx l List.mem_cons_self
  exact absurd (hleast x (waits_iff.mp hw)) hbefore.not_ge

theorem selectList_eq_none_iff : selectList s = none ↔ ∀ l, s.lists.get l = [] := by
  rw [selectList_eq_find, List.find?_eq_none]
  constructor
  · intro h l
    by_contra hl
    exact h l (mem_selectionOrder s l) (waits_iff.mpr hl)
  · intro h l _ hw
    exact waits_iff.mp hw (h l)

theorem selectList_of_fixed (hmode : s.press.mode = .fixed) (hwaits : s.lists.get l ≠ [])
    (hfirst : ∀ x, listCode x < listCode l → s.lists.get x = []) : selectList s = some l := by
  have hmem := mem_selectionOrder s l
  rw [selectList_eq_find]
  simp only [selectionOrder, hmode] at hmem ⊢
  refine find?_waits_of_least (key := listCode) (by decide) hmem hwaits fun x hx => ?_
  by_contra hlt
  exact hx (hfirst x (Nat.not_le.mp hlt))

theorem selectList_of_rotate (hmode : s.press.mode = .rotate) (hwaits : s.lists.get l ≠ [])
    (hturn : ∀ x, s.lists.get x ≠ [] → turn s l ≤ turn s x) : selectList s = some l := by
  have hmem := mem_selectionOrder s l
  rw [selectList_eq_find]
  simp only [selectionOrder, hmode] at hmem ⊢
  exact find?_waits_of_least (rotation_sorted s) hmem hwaits hturn

end

/-! ## The choice of a head, and a grant (R131, R132) -/

section
variable {s : State} {l : RackList} {p : PlatenIx} {rest : List PlatenIx} {c : PassClass} {h : HeadId}

theorem State.eligible_iff : s.eligible h = true ↔ Eligible s h := by
  simp only [State.eligible, Eligible, Bool.and_eq_true, Bool.or_eq_true, beq_iff_eq, bne_iff_ne, and_assoc]

theorem chooseHead_of_picked (hpicked : Picked s c h) : chooseHead s c = some h := by
  obtain ⟨helig, hchoice⟩ := hpicked
  have helig := State.eligible_iff.mpr helig
  have hother (x : HeadId) (hx : s.eligible x = true) : Eligible s x := State.eligible_iff.mp hx
  cases h with
  | h0 =>
    rcases hchoice with ⟨hcls, -⟩ | ⟨hnone, -⟩
    · have hcls : s.heads.h0.cls = c := hcls
      simp only [chooseHead, helig, hcls, beq_self_eq_true, Bool.true_and, if_true]
    · have h0 : ¬ (s.eligible .h0 && s.heads.h0.cls == c) = true := by
        rw [Bool.and_eq_true, beq_iff_eq]
        exact fun hx => hnone .h0 (hother _ hx.1) hx.2
      have h1 : ¬ (s.eligible .h1 && s.heads.h1.cls == c) = true := by
        rw [Bool.and_eq_true, beq_iff_eq]
        exact fun hx => hnone .h1 (hother _ hx.1) hx.2
      simp only [chooseHead, if_neg h0, if_neg h1, if_pos helig]
  | h1 =>
    rcases hchoice with ⟨hcls, hfirst⟩ | ⟨hnone, hfirst⟩
    · have hcls : s.heads.h1.cls = c := hcls
      have h0 : ¬ (s.eligible .h0 && s.heads.h0.cls == c) = true := by
        rw [Bool.and_eq_true, beq_iff_eq]
        exact fun hx => absurd (hfirst .h0 (hother _ hx.1) hx.2) (by decide)
      simp only [chooseHead, if_neg h0, helig, hcls, beq_self_eq_true, Bool.true_and, if_true]
    · have h0 : ¬ s.eligible .h0 = true := fun hx => absurd (hfirst .h0 (hother _ hx)) (by decide)
      have h1 : ¬ (s.eligible .h1 && s.heads.h1.cls == c) = true := by
        rw [Bool.and_eq_true, beq_iff_eq]
        exact fun hx => hnone .h1 (hother _ hx.1) hx.2
      simp only [chooseHead, Bool.eq_false_iff.mpr h0, Bool.false_and, Bool.false_eq_true, if_false,
        if_neg h1, if_pos helig]

theorem State.grantOnce_of_chosen (hlist : selectList s = some l) (hhead : s.lists.get l = p :: rest)
    (hchosen : chooseHead s (listClass l) = some h) : s.grantOnce = s.grant l p rest h := by
  simp only [State.grantOnce, hlist, hhead, hchosen]

/-- The state after a grant, by the class, the setpoint, the close timer and the changeover mark that it
gives the head (R132). -/
def grantedAs (s : State) (l : RackList) (p : PlatenIx) (rest : List PlatenIx) (h : HeadId)
    (c : PassClass) (sp : Nat) (timer : Option Timer) (changed : Bool) : State :=
  ({ s with
     lists := s.lists.set l rest
     level1 := (s.movePointers l).level1
     level2 := (s.movePointers l).level2
     platens := s.platens.set p { s.platens.get p with location := .head h }
     heads := s.heads.set h
       { s.heads.get h with
         state := .assigned, cls := c, platen := some p, origin := l, late := false,
         closeOnTaken := false, timer := timer }
     thermal := s.thermal.set h { s.thermal.get h with setpoint := sp } }).post h
    (.closeOn p c sp changed)

/-- The model's grant and the statement's write the same fields (R132). -/
theorem State.grant_eq_afterGrant (s : State) (l : RackList) (p : PlatenIx) (rest : List PlatenIx)
    (h : HeadId) : s.grant l p rest h = afterGrant s l p rest h := by
  let d := s.heads.get h
  let c := listClass l
  have hgrant : s.grant l p rest h =
      grantedAs s l p rest h c (if d.cls != c then (s.pass.get c).defSetpoint else (s.thermal.get h).setpoint)
        (closeTimer s.press (d.cls != c)) (d.cls != c) := by
    cases hmode : s.press.mode <;> cases l <;>
      simp only [State.grant, State.movePointers, State.setList, grantedAs, hmode] <;> rfl
  have hafter : afterGrant s l p rest h =
      grantedAs s l p rest h c (if d.cls = c then (s.thermal.get h).setpoint else (s.pass.get c).defSetpoint)
        (if s.press.closeTimeout = 0 then none
          else some ⟨.close, (s.press.closeTimeout + if d.cls = c then 0 else s.press.changeover) * 1000⟩)
        (decide (d.cls ≠ c)) := by
    cases hmode : s.press.mode <;> cases l <;>
      simp only [afterGrant, State.movePointers, grantedAs, hmode] <;> rfl
  rw [hgrant, hafter]
  by_cases hcls : d.cls = c
  · simp [hcls, closeTimer, ticksPerSecond]
  · simp [hcls, bne_iff_ne.mpr hcls, closeTimer, ticksPerSecond]

/-! ## The heads after a posting -/

theorem State.heads_setMailbox (s : State) (h : HeadId) (m : Option Assignment) :
    (s.setMailbox h m).heads = s.heads.modify h fun d => { d with mailbox := m } := by
  cases m <;> rfl

theorem State.head_setMailbox_self (s : State) (h : HeadId) (m : Option Assignment) :
    (s.setMailbox h m).heads.get h = { s.heads.get h with mailbox := m } := by
  rw [State.heads_setMailbox, PerHead.get_modify_self]

theorem State.head_setMailbox_ne (s : State) {h x : HeadId} (m : Option Assignment) (hx : x ≠ h) :
    (s.setMailbox h m).heads.get x = s.heads.get x := by
  rw [State.heads_setMailbox, PerHead.get_modify_ne _ _ hx]

/-- What a slot's writing leaves alone outside the heads and the notices. -/
theorem State.setMailbox_keeps (s : State) (h : HeadId) (m : Option Assignment) :
    (s.setMailbox h m).press = s.press ∧ (s.setMailbox h m).lists = s.lists ∧
      (s.setMailbox h m).thermal = s.thermal ∧ (s.setMailbox h m).pass = s.pass ∧
      (s.setMailbox h m).platens = s.platens := by
  cases m <;> exact ⟨rfl, rfl, rfl, rfl, rfl⟩

theorem State.eligible_congr {s t : State} {x : HeadId} (hpress : t.press = s.press)
    (hhead : t.heads.get x = s.heads.get x) : t.eligible x = s.eligible x := by
  cases x <;> simp only [State.eligible, State.present, hpress, hhead]

/-- A grant takes its head and leaves the other as it was (R131). -/
theorem State.eligible_grant (s : State) (l : RackList) (p : PlatenIx) (rest : List PlatenIx)
    (h x : HeadId) : (s.grant l p rest h).eligible x = if x = h then false else s.eligible x := by
  rw [State.grant_eq_afterGrant]
  by_cases hx : x = h
  · subst hx
    rw [if_pos rfl, Bool.eq_false_iff]
    intro helig
    obtain ⟨-, hstate, -⟩ := State.eligible_iff.mp helig
    simp only [afterGrant, State.post, State.head_setMailbox_self, PerHead.get_set_self] at hstate
    rcases hstate with hstate | hstate <;> exact absurd hstate nofun
  · rw [if_neg hx]
    refine State.eligible_congr (State.setMailbox_keeps _ _ _).1 ?_
    simp only [afterGrant, State.post, State.head_setMailbox_ne _ _ hx, PerHead.get_set_ne _ _ hx]

theorem State.grantOnce_of_ineligible (hnone : ∀ x, s.eligible x = false) : s.grantOnce = s := by
  rcases State.grantOnce_cases s with heq | ⟨l, p, rest, h, -, -, hchosen, -⟩
  · exact heq
  · exact absurd (chooseHead_eligible hchosen) (by rw [hnone]; exact Bool.false_ne_true)

/-- Two grants are the most an evaluation makes, as each takes an eligible head (R131). -/
theorem State.grantEval_grantOnce (s : State) : s.grantEval.grantOnce = s.grantEval := by
  change s.grantOnce.grantOnce.grantOnce = s.grantOnce.grantOnce
  rcases State.grantOnce_cases s with h1 | ⟨l1, p1, rest1, x1, -, -, hc1, h1⟩
  · rw [h1, h1]
    exact h1
  · rcases State.grantOnce_cases s.grantOnce with h2 | ⟨l2, p2, rest2, x2, -, -, hc2, h2⟩
    · rw [h2, h2]
    · refine State.grantOnce_of_ineligible fun x => ?_
      have hx2 := chooseHead_eligible hc2
      rw [h1, State.eligible_grant] at hx2
      have hne : x2 ≠ x1 := by
        rintro rfl
        rw [if_pos rfl] at hx2
        exact absurd hx2 nofun
      rw [h2, State.eligible_grant, h1, State.eligible_grant]
      cases x <;> cases x1 <;> cases x2 <;> first | rfl | exact absurd rfl hne

theorem State.grantEval_of_no_platen (hempty : ∀ l, s.lists.get l = []) : s.grantEval = s := by
  refine State.grantEval_of_empty (PerList.ext_get fun l => ?_)
  rw [hempty]
  cases l <;> rfl

/-! ## Parking within an event (R142) -/

theorem State.parkIfDue_of_due (hfree : (s.heads.get h).state = .free)
    (htimer : (s.heads.get h).timer = some ⟨.park, 0⟩) : s.parkIfDue h = s.parkNow h :=
  if_pos ⟨hfree, htimer⟩

theorem State.parkIfDue_of_not_due (hnot : (s.heads.get h).state ≠ .free ∨
    (s.heads.get h).timer ≠ some ⟨.park, 0⟩) : s.parkIfDue h = s :=
  if_neg (by rcases hnot with hnot | hnot <;> exact fun hdue => by simp_all)

theorem State.parkNow_head_self (s : State) (h : HeadId) :
    ((s.parkNow h).heads.get h).state = .parked ∧ ((s.parkNow h).heads.get h).timer = none ∧
      ((s.parkNow h).heads.get h).platen = (s.heads.get h).platen := by
  simp only [State.parkNow, State.post, State.head_setMailbox_self, State.modifyThermal,
    State.modifyHead, PerHead.get_modify_self]
  exact ⟨trivial, trivial, trivial⟩

theorem State.parkNow_head_ne {x : HeadId} (hx : x ≠ h) :
    (s.parkNow h).heads.get x = s.heads.get x := by
  simp only [State.parkNow, State.post, State.head_setMailbox_ne _ _ hx, State.modifyThermal,
    State.modifyHead, PerHead.get_modify_ne _ _ hx]

theorem State.parkIfDue_head_ne {x : HeadId} (hx : x ≠ h) :
    (s.parkIfDue h).heads.get x = s.heads.get x := by
  rcases State.parkIfDue_cases s h with heq | ⟨-, -, heq⟩ <;> rw [heq]
  exact State.parkNow_head_ne hx

end

/-- Settles O42: the lists have a sorted order, a grant takes an eligible head, and a parking touches its
own head. -/
theorem selectionAndGrants : Obligations.SelectionAndGrants := by
  intro s
  refine ⟨selectList_eq_none_iff, fun l => selectList_of_fixed, fun l => selectList_of_rotate,
    fun hnone => ?noHead, State.grantEval_of_no_platen, fun l p rest h hlist hhead hpicked => ?grant, rfl,
    State.grantEval_grantOnce s, ?settle, fun hnot => ?notDue, fun h hempty hfree htimer => ?parks⟩
  case noHead =>
    have hinel (h : HeadId) : s.eligible h = false :=
      Bool.eq_false_iff.mpr fun helig => hnone h (State.eligible_iff.mp helig)
    exact State.grantEval_of_none (hinel .h0) (hinel .h1)
  case grant =>
    rw [State.grantOnce_of_chosen hlist hhead (chooseHead_of_picked hpicked), State.grant_eq_afterGrant]
  case settle =>
    intro parks
    have hparks (u : State) (h : HeadId) : u.parkIfDue h = parks u h := rfl
    rw [State.settle, hparks, hparks]
  case notDue =>
    rw [State.settle, State.parkIfDue_of_not_due (hnot .h0), State.parkIfDue_of_not_due (hnot .h1)]
  case parks =>
    rw [State.settle, State.grantEval_of_no_platen hempty]
    cases h with
    | h0 =>
      rw [State.parkIfDue_head_ne (by decide), State.parkIfDue_of_due hfree htimer]
      exact State.parkNow_head_self s .h0
    | h1 =>
      have hother : (s.parkIfDue .h0).heads.get .h1 = s.heads.get .h1 :=
        State.parkIfDue_head_ne (by decide)
      rw [State.parkIfDue_of_due (by rw [hother, hfree]) (by rw [hother, htimer]), ← hother]
      exact State.parkNow_head_self _ .h1

/-- Settles O43: the merge is R133's table, and a slot's notice shows whether it holds anything. -/
theorem postingMerges : Obligations.PostingMerges := by
  intro s h p q c e u v f g after on on2
  have posts {held : Option Assignment} {a : Assignment} {r : Option Assignment}
      (hmerge : mergePost held a = r) : after held a r := by
    intro hheld
    rw [State.post, hheld, hmerge]
    cases r <;> rfl
  exact ⟨fun a => posts rfl, posts rfl, posts rfl, posts rfl, posts rfl, posts rfl, posts rfl, posts rfl,
    posts rfl, posts rfl, posts rfl, fun a => posts (by cases a <;> rfl)⟩

end Sys2Proof.Machine
end

section
/-! PROOF. The heads of the press: how a head lets its platen go (R125, R137), TAKE_ASSIGNMENT (R134),
PRESS_CLOSED and PRESS_OPENED (R135, R137, R161), HEAD_DECLINE and RESTORE_HEAD (R141, R143). -/

namespace Sys2Proof

theorem PerHead.set_set {α : Type} (t : PerHead α) (h : HeadId) (x y : α) :
    (t.set h x).set h y = t.set h y := by
  cases h <;> rfl

namespace Machine

section
variable {s u : State} {h : HeadId} {p : PlatenIx} {o : PressOutcome} {sel : Selector} {arg : Arg}
  {k : Ticket} {c : PassClass}

/-! ## A head and its platen in the terms of the statements -/

theorem State.setMailbox_none_eq_emptySlot (s : State) (h : HeadId) : s.setMailbox h none = emptySlot s h :=
  rfl

theorem emptySlot_head (s : State) (h : HeadId) :
    (emptySlot s h).heads.get h = { s.heads.get h with mailbox := none } :=
  PerHead.get_modify_self ..

theorem State.freeHead_eq_freed (s : State) (h : HeadId) : s.freeHead h = freed s h := by
  rcases State.freeHead_cases s h with ⟨hpending, heq⟩ | ⟨hpending, heq⟩
  · rw [heq]
    simp only [freed, State.modifyHead, PerHead.modify, Head.emptied, hpending, true_or, if_true]
  · rw [heq]
    simp only [freed, State.startPark, State.modifyHead, PerHead.modify, PerHead.get_set_self,
      PerHead.set_set, Head.emptied, hpending, Bool.false_eq_true, false_or, if_false]
    rfl

theorem State.sendPlaten_eq_goesBy (hplaten : (s.heads.get h).platen = some p) :
    s.sendPlaten h o = goesBy s o (s.heads.get h).origin p := by
  cases o <;> simp only [State.sendPlaten, hplaten] <;> rfl

/-- An opened head lets its platen go by the outcome, with its slot emptied first (R137). -/
theorem State.openHead_eq (hplaten : (s.heads.get h).platen = some p) :
    s.openHead h o =
      (freed (goesBy (emptySlot s h) o (s.heads.get h).origin p) h).settle := by
  have hslot : ((emptySlot s h).heads.get h).platen = some p := by rw [emptySlot_head, hplaten]
  have horigin : ((emptySlot s h).heads.get h).origin = (s.heads.get h).origin := by
    rw [emptySlot_head]
  rw [State.openHead, State.freeHead_eq_freed, State.setMailbox_none_eq_emptySlot,
    State.sendPlaten_eq_goesBy hslot, horigin]

/-! ## The head that a selector names (R127) -/

theorem State.presentHead_eq_none {n : Nat} (hn : 2 ≤ n ∨ (n = 1 ∧ s.press.headsPresent ≠ 2)) :
    s.presentHead n = none := by
  rcases hn with hn | ⟨rfl, hcount⟩
  · match n, hn with
    | _ + 2, _ => rfl
  · have habsent : s.present .h1 = false := beq_false_of_ne hcount
    simp only [State.presentHead, headOf, habsent, Bool.false_eq_true, if_false]

theorem State.presentHead_eq_some {n : Nat} (hn : n = headCode h) (hpresent : s.present h = true) :
    s.presentHead n = some h := by
  subst hn
  cases h <;> simp only [State.presentHead, headCode, headOf, hpresent, if_true]

/-- The selectors that the statements say name no head present. -/
theorem selector_names_no_head (hsel : 2 ≤ sel.toNat ∨ (sel = 1 ∧ s.press.headsPresent ≠ 2)) :
    s.presentHead sel.toNat = none :=
  State.presentHead_eq_none (hsel.imp_right fun ⟨hone, hcount⟩ => ⟨by rw [hone]; rfl, hcount⟩)

/-! ## TAKE_ASSIGNMENT (R134) -/

theorem bodyTakeAssignment_of_absent (hhead : s.presentHead sel.toNat = none) :
    bodyTakeAssignment sel s = (answer0 .notFound, s) := by
  simp only [bodyTakeAssignment, hhead]

theorem bodyTakeAssignment_of_empty (hhead : s.presentHead sel.toNat = some h)
    (hslot : (s.heads.get h).mailbox = none) : bodyTakeAssignment sel s = (answer0 .none, s) := by
  simp only [bodyTakeAssignment, hhead, hslot]

theorem bodyTakeAssignment_of_closeOn {sp : Nat} {ch : Bool} (hhead : s.presentHead sel.toNat = some h)
    (hslot : (s.heads.get h).mailbox = some (.closeOn p c sp ch)) :
    bodyTakeAssignment sel s =
      (answer .ok [(16, p.val), (8, sp), (3, 0), (1, classCode c), flag ch, (3, 1)],
        (emptySlot s h).modifyHead h fun x => { x with closeOnTaken := true }) := by
  simp only [bodyTakeAssignment, hhead, hslot]
  rfl

theorem bodyTakeAssignment_of_park {sp : Nat} (hhead : s.presentHead sel.toNat = some h)
    (hslot : (s.heads.get h).mailbox = some (.park c sp)) :
    bodyTakeAssignment sel s =
      (answer .ok [(16, 0), (8, sp), (3, 0), (1, classCode c), (1, 0), (3, 3)], emptySlot s h) := by
  simp only [bodyTakeAssignment, hhead, hslot]
  rfl

theorem bodyTakeAssignment_of_setpoint {sp : Nat} (hhead : s.presentHead sel.toNat = some h)
    (hslot : (s.heads.get h).mailbox = some (.setpoint sp)) :
    bodyTakeAssignment sel s = (answer .ok [(16, 0), (8, sp), (5, 0), (3, 4)], emptySlot s h) := by
  simp only [bodyTakeAssignment, hhead, hslot]
  rfl

theorem bodyTakeAssignment_of_release (hhead : s.presentHead sel.toNat = some h)
    (hslot : (s.heads.get h).mailbox = some .release) (hfree : (s.heads.get h).state ≠ .free) :
    bodyTakeAssignment sel s = (answer .ok [(29, 0), (3, 2)], emptySlot s h) := by
  simp only [bodyTakeAssignment, hhead, hslot, if_neg hfree]
  rfl

/-- A head whose slot is empty starts its park timer (R142). -/
theorem startPark_emptySlot (s : State) (h : HeadId) :
    (emptySlot s h).startPark h =
      (emptySlot s h).modifyHead h fun x =>
        { x with timer := some ⟨.park, s.press.parkDelay * 1000⟩ } := by
  simp only [State.startPark, State.modifyHead, PerHead.modify, emptySlot_head, reduceCtorEq, if_false]
  rfl

theorem bodyTakeAssignment_of_release_free (hhead : s.presentHead sel.toNat = some h)
    (hslot : (s.heads.get h).mailbox = some .release) (hfree : (s.heads.get h).state = .free) :
    bodyTakeAssignment sel s =
      (answer .ok [(29, 0), (3, 2)],
        ((emptySlot s h).modifyHead h fun x =>
          { x with timer := some ⟨.park, s.press.parkDelay * 1000⟩ }).settle) := by
  simp only [bodyTakeAssignment, hhead, hslot, if_pos hfree, State.setMailbox_none_eq_emptySlot,
    startPark_emptySlot]
  rfl

end

/-- Settles O44: the slot's contents say what the taking returns and does. -/
theorem takeAssignment : Obligations.TakeAssignment := by
  intro sel s hrecv put
  refine ⟨fun hsel => takeFrame_answers hrecv rfl
    (bodyTakeAssignment_of_absent (selector_names_no_head hsel)), fun h hsel hpresent => ?_⟩
  have hhead := State.presentHead_eq_some hsel hpresent
  exact ⟨fun hslot => takeFrame_answers hrecv rfl (bodyTakeAssignment_of_empty hhead hslot),
    fun p c sp ch hslot => takeFrame_answers hrecv rfl (bodyTakeAssignment_of_closeOn hhead hslot),
    fun c sp hslot => takeFrame_answers hrecv rfl (bodyTakeAssignment_of_park hhead hslot),
    fun sp hslot => takeFrame_answers hrecv rfl (bodyTakeAssignment_of_setpoint hhead hslot),
    fun hslot hfree => takeFrame_answers hrecv rfl (bodyTakeAssignment_of_release hhead hslot hfree),
    fun hslot hfree => takeFrame_answers hrecv rfl (bodyTakeAssignment_of_release_free hhead hslot hfree)⟩

/-! ## PRESS_CLOSED (R135, R152) -/

section
variable {s : State} {h : HeadId} {p : PlatenIx} {sel : Selector}

theorem bodyPressClosed_of_absent (hhead : s.presentHead sel.toNat = none) :
    bodyPressClosed sel s = (answer0 .notFound, s) := by
  simp only [bodyPressClosed, hhead]

theorem bodyPressClosed_of_taken (hhead : s.presentHead sel.toNat = some h)
    (hstate : (s.heads.get h).state = .assigned) (htaken : (s.heads.get h).closeOnTaken = true)
    (hplaten : (s.heads.get h).platen = some p) :
    bodyPressClosed sel s = (answer .ok [(6, p.val)], s.closeHead h p) := by
  simp only [bodyPressClosed, hhead, hstate, htaken, hplaten, if_true]

theorem bodyPressClosed_of_pending (hhead : s.presentHead sel.toNat = some h)
    (hstate : (s.heads.get h).state = .assigned) (htaken : (s.heads.get h).closeOnTaken = false) :
    bodyPressClosed sel s = (answer0 .notReady, s) := by
  simp only [bodyPressClosed, hhead, hstate, htaken, Bool.false_eq_true, if_false]

theorem bodyPressClosed_of_releasing (hhead : s.presentHead sel.toNat = some h)
    (hstate : (s.heads.get h).state = .releasing) : bodyPressClosed sel s = (answer0 .late, s) := by
  simp only [bodyPressClosed, hhead, hstate]

theorem bodyPressClosed_of_closed (hhead : s.presentHead sel.toNat = some h)
    (hstate : (s.heads.get h).state = .closed) : bodyPressClosed sel s = (answer0 .badState, s) := by
  simp only [bodyPressClosed, hhead, hstate]

theorem bodyPressClosed_of_idle (hhead : s.presentHead sel.toNat = some h)
    (hassigned : (s.heads.get h).state ≠ .assigned) (hreleasing : (s.heads.get h).state ≠ .releasing)
    (hclosed : (s.heads.get h).state ≠ .closed) :
    bodyPressClosed sel s = (lateOrBad (s.heads.get h), s) := by
  cases hstate : (s.heads.get h).state with
  | assigned => exact absurd hstate hassigned
  | releasing => exact absurd hstate hreleasing
  | closed => exact absurd hstate hclosed
  | _ => simp only [bodyPressClosed, hhead, hstate]

end

/-- Settles O45: the head's state decides. -/
theorem pressClosed : Obligations.PressClosed := by
  intro sel s hrecv put
  refine ⟨fun hsel => takeFrame_answers hrecv rfl
    (bodyPressClosed_of_absent (selector_names_no_head hsel)), fun h hsel hpresent => ?_⟩
  have hhead := State.presentHead_eq_some hsel hpresent
  refine ⟨fun p hstate htaken hplaten => takeFrame_answers hrecv rfl ?closes,
    fun hstate htaken => takeFrame_answers hrecv rfl (bodyPressClosed_of_pending hhead hstate htaken),
    fun hstate => takeFrame_answers hrecv rfl (bodyPressClosed_of_releasing hhead hstate),
    fun hstate => takeFrame_answers hrecv rfl (bodyPressClosed_of_closed hhead hstate),
    fun hassigned hreleasing hclosed => takeFrame_answers hrecv rfl
      (bodyPressClosed_of_idle hhead hassigned hreleasing hclosed)⟩
  have hnumber : packWord [(6, p.val)] = BitVec.ofNat 32 p.val := packWord_singleton (by omega)
  rw [bodyPressClosed_of_taken hhead hstate htaken hplaten, answer, hnumber]
  rfl

/-! ## HEAD_DECLINE and RESTORE_HEAD (R141, R143) -/

section
variable {s : State} {h : HeadId} {sel : Selector} {arg : Arg}

/-- The state of a head that a decline takes out of service (R143). -/
def declined (s : State) (h : HeadId) : State :=
  s.modifyHead h fun x => { x with state := .declining, declinePending := false, timer := none }

/-- The state of a DECLINING head that comes back into service (R143). -/
def undeclined (s : State) (h : HeadId) : State :=
  s.modifyHead h fun x =>
    { x with
      state := .free
      timer := if x.mailbox = some .release then none
               else some ⟨.park, s.press.parkDelay * 1000⟩ }

theorem declined_state (s : State) (h : HeadId) : ((declined s h).heads.get h).state = .declining := by
  rw [declined, State.modifyHead, PerHead.get_modify_self]

theorem State.decline_of_idle_slot (hstate : (s.heads.get h).state = .free ∨ (s.heads.get h).state = .parked)
    (hslot : (∃ c sp, (s.heads.get h).mailbox = some (.park c sp)) ∨
      ∃ sp, (s.heads.get h).mailbox = some (.setpoint sp)) :
    s.decline h true = emptySlot (declined s h) h := by
  rcases hstate with hstate | hstate <;> rcases hslot with ⟨c, sp, hslot⟩ | ⟨sp, hslot⟩ <;>
    simp only [State.decline, hstate, hslot] <;> rfl

theorem State.decline_of_other_slot (hstate : (s.heads.get h).state = .free ∨ (s.heads.get h).state = .parked)
    (hslot : (s.heads.get h).mailbox = none ∨ (s.heads.get h).mailbox = some .release) :
    s.decline h true = declined s h := by
  rcases hstate with hstate | hstate <;> rcases hslot with hslot | hslot <;>
    simp only [State.decline, hstate, hslot] <;> rfl

theorem State.decline_of_declining (hstate : (s.heads.get h).state = .declining) :
    s.decline h true = s := by
  simp only [State.decline, hstate]

theorem State.decline_of_busy (hfree : (s.heads.get h).state ≠ .free)
    (hparked : (s.heads.get h).state ≠ .parked) (hdeclining : (s.heads.get h).state ≠ .declining) :
    s.decline h true = s.modifyHead h fun d => { d with declinePending := true } := by
  cases hstate : (s.heads.get h).state with
  | free => exact absurd hstate hfree
  | parked => exact absurd hstate hparked
  | declining => exact absurd hstate hdeclining
  | _ => simp only [State.decline, hstate]

theorem State.undecline_of_declining (hstate : (s.heads.get h).state = .declining) :
    s.decline h false = (undeclined s h).settle := by
  simp only [State.decline, hstate]
  refine congrArg State.settle ?_
  simp only [State.startPark, undeclined, State.modifyHead, PerHead.modify, PerHead.get_set_self,
    PerHead.set_set]
  rfl

theorem State.undecline_of_other (hstate : (s.heads.get h).state ≠ .declining) :
    s.decline h false = s.modifyHead h fun d => { d with declinePending := false } := by
  cases hdecl : (s.heads.get h).state with
  | declining => exact absurd hdecl hstate
  | _ => simp only [State.decline, hdecl]

theorem bodyHeadDecline_of_absent (hhead : s.presentHead sel.toNat = none) :
    bodyHeadDecline sel arg s = (answer0 .notFound, s) := by
  simp only [bodyHeadDecline, hhead]

theorem bodyHeadDecline_of_present {u : State} {b : Bool} {n : Nat}
    (hhead : s.presentHead sel.toNat = some h) (hbit : arg.getLsbD 0 = b) (hu : s.decline h b = u)
    (hcode : headStateCode (u.heads.get h).state = n) :
    bodyHeadDecline sel arg s = (answer .ok [(3, n)], u) := by
  subst hbit hu hcode
  simp only [bodyHeadDecline, hhead]

theorem bodyRestoreHead_of_absent (hhead : s.presentHead sel.toNat = none) :
    bodyRestoreHead sel s = (answer0 .notFound, s) := by
  simp only [bodyRestoreHead, hhead]

theorem bodyRestoreHead_of_isolated (hhead : s.presentHead sel.toNat = some h)
    (hstate : (s.heads.get h).state = .isolated) :
    bodyRestoreHead sel s = (answer0 .ok, (freed s h).settle) := by
  simp only [bodyRestoreHead, hhead, if_pos hstate, State.freeHead_eq_freed]

theorem bodyRestoreHead_of_other (hhead : s.presentHead sel.toNat = some h)
    (hstate : (s.heads.get h).state ≠ .isolated) :
    bodyRestoreHead sel s = (answer0 .badState, s) := by
  simp only [bodyRestoreHead, hhead, if_neg hstate]

/-- A change of decline pending leaves the head's state. -/
theorem modifyHead_declinePending_state (s : State) (h : HeadId) (b : Bool) :
    ((s.modifyHead h fun d => { d with declinePending := b }).heads.get h).state =
      (s.heads.get h).state := by
  rw [State.modifyHead, PerHead.get_modify_self]

end

/-- Settles O48: the flag and the head's state decide. -/
theorem declineAndRestoreHead : Obligations.DeclineAndRestoreHead := by
  intro sel arg s down
  refine ⟨fun hrecv hsel => takeFrame_answers hrecv rfl
      (bodyHeadDecline_of_absent (selector_names_no_head hsel)),
    fun hrecv hsel => takeFrame_answers hrecv rfl
      (bodyRestoreHead_of_absent (selector_names_no_head hsel)), fun h hsel hpresent => ?_⟩
  have hhead := State.presentHead_eq_some hsel hpresent
  intro d out onAgain
  refine ⟨fun hrecv => ?decline, fun hrecv =>
    ⟨fun hstate => takeFrame_answers hrecv rfl (bodyRestoreHead_of_isolated hhead hstate),
      fun hstate => takeFrame_answers hrecv rfl (bodyRestoreHead_of_other hhead hstate)⟩⟩
  have answered {u : State} {b : Bool} {n : Nat} (hbit : arg.getLsbD 0 = b) (hu : s.decline h b = u)
      (hcode : headStateCode (u.heads.get h).state = n) : down u n :=
    takeFrame_answers hrecv rfl (bodyHeadDecline_of_present hhead hbit hu hcode)
  refine ⟨fun hbit hstate => ⟨fun hslot => answered hbit (State.decline_of_idle_slot hstate hslot) ?_,
      fun hslot => answered hbit (State.decline_of_other_slot hstate hslot) ?_⟩,
    fun hbit hstate => answered hbit (State.decline_of_declining hstate) ?_,
    fun hbit hfree hparked hdeclining => answered hbit
      (State.decline_of_busy hfree hparked hdeclining) ?_,
    fun hbit hstate => answered hbit (State.undecline_of_declining hstate) rfl,
    fun hbit hstate => answered hbit (State.undecline_of_other hstate) ?_⟩
  · rw [emptySlot_head]
    exact congrArg headStateCode (declined_state s h)
  · exact congrArg headStateCode (declined_state s h)
  · exact congrArg headStateCode hstate
  · exact congrArg headStateCode (modifyHead_declinePending_state s h true)
  · exact congrArg headStateCode (modifyHead_declinePending_state s h false)

end Machine

end Sys2Proof
end

section
/-! PROOF. PRESS_OPENED (R137) with the judgement of an early opening (R161), and the judgement of a
short cycle (R158). -/

namespace Sys2Proof.Machine

open Sys2Proof

section
variable {s u : State} {h : HeadId} {p : PlatenIx} {o : PressOutcome} {sel : Selector} {arg : Arg}
  {k x : Ticket} {c : PassClass}

/-! ## Tickets at the press -/

theorem Ticket.meetsTarget_iff : k.meetsTarget c = true ↔ ∃ g, k.target c = some g ∧ g ≤ k.credit c := by
  unfold Ticket.meetsTarget
  cases k.target c <;> simp

theorem Ticket.completeCycle_of_due (hgood : k.disposition = .good) (hstage : k.stage = cycleFrom c) :
    k.completeCycle c = { k with stage := cycleTo c } := by
  cases c <;> exact if_pos ⟨hgood, hstage⟩

theorem withTicket_withTicket : withTicket (withTicket s p k) p x = withTicket s p x := by
  simp only [withTicket, Table.get_set_self, Table.set_set]

theorem State.modifyTicket_eq_withTicket {f : Ticket → Ticket} (hticket : s.ticket p = some k) :
    s.modifyTicket p f = withTicket s p (f k) :=
  State.modifyTicket_of_ticket hticket

/-- A ticket that a short cycle spoils (R158). -/
def shortSpoiled (k : Ticket) (c : PassClass) : Ticket :=
  { k with presses := k.presses + 1, disposition := .spoiled, reason := some (shortReason c) }

theorem State.judgeShort_of_again (hticket : s.ticket p = some k)
    (hagain : k.presses + 1 ≤ s.params.repressLimit) :
    s.judgeShort p c =
      (withTicket s p { k with presses := k.presses + 1 }, .return_, .shortReturn) := by
  simp only [State.judgeShort, State.modifyTicket_eq_withTicket hticket, withTicket_ticket, Option.map_some,
    Option.getD_some, if_pos hagain]

theorem State.judgeShort_of_last (hticket : s.ticket p = some k) (hgood : k.disposition = .good)
    (hlast : s.params.repressLimit < k.presses + 1) :
    s.judgeShort p c =
      ((withTicket s p (shortSpoiled k c)).raise .garmentSpoiled
        [(6, p.val), (2, 0), (8, k.line.val), (3, shortCode c)], .transit, .shortSpoiled) := by
  have hspoil (why : SpoilReason) := State.spoil_of_good (why := why)
    (withTicket_ticket (s := s) (p := p) (k := { k with presses := k.presses + 1 })) hgood
  simp only [State.judgeShort, State.modifyTicket_eq_withTicket hticket, withTicket_ticket, Option.map_some,
    Option.getD_some, if_neg (Nat.not_le.mpr hlast), hspoil, withTicket_modifyTicket]
  cases c <;> rfl

/-! ## An early opening (R161) -/

theorem State.judgeOpening_of_met (hplaten : (s.thermal.get h).cycle.platen = p)
    (hticket : s.ticket p = some k)
    (hmet : ∃ g, k.target (s.thermal.get h).cycle.cls = some g ∧ g ≤ k.credit (s.thermal.get h).cycle.cls) :
    s.judgeOpening h =
      ((withTicket s p (k.completeCycle (s.thermal.get h).cycle.cls)).endCycle h, .transit) := by
  simp only [State.judgeOpening, hplaten, hticket, Option.map_some, Option.getD_some,
    Ticket.meetsTarget_iff.mpr hmet, if_true, State.modifyTicket_eq_withTicket hticket]

theorem State.judgeOpening_of_short (hplaten : (s.thermal.get h).cycle.platen = p)
    (hticket : s.ticket p = some k)
    (hmet : ¬ ∃ g, k.target (s.thermal.get h).cycle.cls = some g ∧
      g ≤ k.credit (s.thermal.get h).cycle.cls) :
    s.judgeOpening h =
      ((s.judgeShort p (s.thermal.get h).cycle.cls).1.endCycle h,
        (s.judgeShort p (s.thermal.get h).cycle.cls).2.1) := by
  simp only [State.judgeOpening, hplaten, hticket, Option.map_some, Option.getD_some,
    Bool.eq_false_of_not_eq_true (mt Ticket.meetsTarget_iff.mp hmet), Bool.false_eq_true, if_false]

theorem bodyPressOpened_of_absent (hhead : s.presentHead sel.toNat = none) :
    bodyPressOpened sel s = (answer0 .notFound, s) := by
  simp only [bodyPressOpened, hhead]

theorem bodyPressOpened_of_idle (hhead : s.presentHead sel.toNat = some h)
    (hassigned : (s.heads.get h).state ≠ .assigned) (hreleasing : (s.heads.get h).state ≠ .releasing)
    (hclosed : (s.heads.get h).state ≠ .closed) :
    bodyPressOpened sel s = (lateOrBad (s.heads.get h), s) := by
  cases hstate : (s.heads.get h).state with
  | assigned => exact absurd hstate hassigned
  | releasing => exact absurd hstate hreleasing
  | closed => exact absurd hstate hclosed
  | _ => simp only [bodyPressOpened, hhead, hstate]

theorem bodyPressOpened_of_releasing (hhead : s.presentHead sel.toNat = some h)
    (hplaten : (s.heads.get h).platen = some p) (hstate : (s.heads.get h).state = .releasing) :
    bodyPressOpened sel s =
      (answer .ok [(6, p.val), (1, outcomeCode (s.heads.get h).outcome)],
        s.openHead h (s.heads.get h).outcome) := by
  simp only [bodyPressOpened, hhead, hstate, hplaten, Option.map_some, Option.getD_some]

theorem bodyPressOpened_of_assigned (hhead : s.presentHead sel.toNat = some h)
    (hplaten : (s.heads.get h).platen = some p) (hstate : (s.heads.get h).state = .assigned) :
    bodyPressOpened sel s =
      (answer .ok [(6, p.val), (1, outcomeCode .return_)], s.openHead h .return_) := by
  simp only [bodyPressOpened, hhead, hstate, hplaten, Option.map_some, Option.getD_some]

theorem bodyPressOpened_of_closed (hhead : s.presentHead sel.toNat = some h)
    (hplaten : (s.heads.get h).platen = some p) (hstate : (s.heads.get h).state = .closed)
    (hjudge : s.judgeOpening h = (u, o)) :
    bodyPressOpened sel s = (answer .ok [(6, p.val), (1, outcomeCode o)], u.openHead h o) := by
  simp only [bodyPressOpened, hhead, hstate, hplaten, Option.map_some, Option.getD_some, hjudge]

end

/-- Settles O47: the head's state decides, and the judgement of an early opening where it is CLOSED. -/
theorem pressOpened : Obligations.PressOpened := by
  intro sel s hrecv put
  refine ⟨fun hsel => takeFrame_answers hrecv rfl
    (bodyPressOpened_of_absent (selector_names_no_head hsel)), fun h hsel hpresent => ?_⟩
  have hhead := State.presentHead_eq_some hsel hpresent
  refine ⟨fun hassigned hreleasing hclosed => takeFrame_answers hrecv rfl
    (bodyPressOpened_of_idle hhead hassigned hreleasing hclosed), fun p hplaten => ?_⟩
  intro opened
  have opens {u : State} {o : PressOutcome} (hheads : u.heads = s.heads)
      (hbody : bodyPressOpened sel s = (answer .ok [(6, p.val), (1, outcomeCode o)], u.openHead h o)) :
      opened u o := by
    have hopen : u.openHead h o = (freed (goesBy (emptySlot u h) o (s.heads.get h).origin p) h).settle :=
      (State.openHead_eq (hheads ▸ hplaten)).trans (by rw [hheads])
    exact takeFrame_answers hrecv rfl (hopen ▸ hbody)
  refine ⟨fun hstate => opens rfl (bodyPressOpened_of_releasing hhead hplaten hstate),
    fun hstate => opens rfl (bodyPressOpened_of_assigned hhead hplaten hstate),
    fun k hstate hcycle hticket hgood => ?_⟩
  intro th c met judged
  refine ⟨fun hstage hmet => opens rfl (bodyPressOpened_of_closed hhead hplaten hstate ?_),
    fun hmet hagain => opens rfl (bodyPressOpened_of_closed hhead hplaten hstate ?_),
    fun hmet hlast => opens rfl (bodyPressOpened_of_closed hhead hplaten hstate ?_)⟩
  · rw [State.judgeOpening_of_met hcycle hticket hmet, Ticket.completeCycle_of_due hgood hstage]
    rfl
  · rw [State.judgeOpening_of_short hcycle hticket hmet, State.judgeShort_of_again hticket hagain]
    rfl
  · rw [State.judgeOpening_of_short hcycle hticket hmet, State.judgeShort_of_last hticket hgood hlast]
    rfl

end Sys2Proof.Machine
end

section
/-! PROOF. PRESS_SAMPLE (R153 to R160): a sample and its judgement write three records, the ticket, the
head and the cycle. -/

namespace Sys2Proof.Machine

open Sys2Proof

section
variable {s u : State} {h : HeadId} {p : PlatenIx} {o : PressOutcome} {sel : Selector} {arg : Arg}
  {k x : Ticket} {c : PassClass} {t n sp step : Nat} {dir : MoveDir} {row : PassRow}

/-! ## The ticket after a sample (R155, R156) -/

theorem creditIncrement_eq_incrementOf (row : PassRow) (t : Nat) : creditIncrement row t = incrementOf row t :=
  rfl

theorem Ticket.addCredit_eq_withCredit (k : Ticket) (c : PassClass) (n : Nat) :
    k.addCredit c n = withCredit k c (min 65535 (k.credit c + n)) := by
  cases c <;> rfl

@[simp] theorem withCredit_credit : (withCredit k c n).credit c = n := by cases c <;> rfl
@[simp] theorem withCredit_scorches : (withCredit k c n).scorches = k.scorches := by cases c <;> rfl

/-- The ticket with its credit raised to `n` and a scorch at `t` degrees counted (R155, R156). -/
def sampledTicket (row : PassRow) (t : Nat) (k : Ticket) (c : PassClass) (n : Nat) : Ticket :=
  if row.scorchTemp ≤ t then { withCredit k c n with scorches := k.scorches + 1 } else withCredit k c n

theorem sampledTicket_of_scorching (hscorch : row.scorchTemp ≤ t) :
    sampledTicket row t k c n = { withCredit k c n with scorches := k.scorches + 1 } :=
  if_pos hscorch

theorem sampledTicket_of_cooler (hscorch : ¬ row.scorchTemp ≤ t) :
    sampledTicket row t k c n = withCredit k c n :=
  if_neg hscorch

/-- The fields of the ticket that a sample leaves. -/
theorem sampledTicket_keeps (row : PassRow) (t : Nat) (k : Ticket) (c : PassClass) (n : Nat) :
    (sampledTicket row t k c n).disposition = k.disposition ∧
      (sampledTicket row t k c n).stage = k.stage ∧
      (sampledTicket row t k c n).presses = k.presses ∧
      (sampledTicket row t k c n).line = k.line ∧
      (sampledTicket row t k c n).target c = k.target c := by
  unfold sampledTicket
  split <;> cases c <;> exact ⟨rfl, rfl, rfl, rfl, rfl⟩

theorem sampledTicket_credit : (sampledTicket row t k c n).credit c = n := by
  unfold sampledTicket
  split <;> cases c <;> rfl

theorem sampledTicket_meetsTarget_iff :
    (sampledTicket row t k c n).meetsTarget c = true ↔ ∃ g, k.target c = some g ∧ g ≤ n := by
  obtain ⟨-, -, -, -, htarget⟩ := sampledTicket_keeps row t k c n
  rw [Ticket.meetsTarget_iff, htarget, sampledTicket_credit]

/-! ## The records that a sample writes -/

/-- The head's timer restarted and the sample counted (R135, R154). -/
def counted (s : State) (h : HeadId) : State :=
  { s with
    heads := s.heads.set h
      { s.heads.get h with timer := some ⟨.sample, s.press.sampleTimeout * 100⟩ }
    thermal := s.thermal.set h
      { s.thermal.get h with
        cycle := { (s.thermal.get h).cycle with samples := (s.thermal.get h).cycle.samples + 1 } } }

/-- A cycle ended at a sample: the head waits for its opening, the cycle is idle (R136, R154). -/
def endedCycle (s : State) (p : PlatenIx) (h : HeadId) (x : Ticket) (o : PressOutcome) : State :=
  { s with
    platens := s.platens.set p { s.platens.get p with ticket := some x }
    heads := s.heads.set h
      { s.heads.get h with state := .releasing, outcome := o,
                           timer := some ⟨.release, s.press.releaseTimeout * 1000⟩ }
    thermal := s.thermal.set h { s.thermal.get h with cycle := ⟨false, 0, .dry, 0, .none, 1⟩ } }

/-- A cycle that goes on after a sample with a setpoint, a step and a direction (R159, R160). -/
def movedCycle (s : State) (p : PlatenIx) (h : HeadId) (x : Ticket) (sp step : Nat) (dir : MoveDir) :
    State :=
  { s with
    platens := s.platens.set p { s.platens.get p with ticket := some x }
    heads := s.heads.set h
      { s.heads.get h with timer := some ⟨.sample, s.press.sampleTimeout * 100⟩ }
    thermal := s.thermal.set h
      ⟨sp, { (s.thermal.get h).cycle with
             samples := (s.thermal.get h).cycle.samples + 1, prevDir := dir, step := step }⟩ }

theorem counted_thermal : (counted s h).thermal.get h =
    { s.thermal.get h with
      cycle := { (s.thermal.get h).cycle with samples := (s.thermal.get h).cycle.samples + 1 } } :=
  PerHead.get_set_self ..

theorem State.countSample_eq (hticket : s.ticket (s.thermal.get h).cycle.platen = some k) :
    s.countSample h t =
      withTicket (counted s h) (s.thermal.get h).cycle.platen
        (withCredit k (s.thermal.get h).cycle.cls
          (min 65535 (k.credit (s.thermal.get h).cycle.cls +
            incrementOf (s.pass.get (s.thermal.get h).cycle.cls) t))) := by
  have hcounted : (counted s h).ticket (s.thermal.get h).cycle.platen = some k := hticket
  rw [← Ticket.addCredit_eq_withCredit, ← creditIncrement_eq_incrementOf]
  exact State.modifyTicket_eq_withTicket hcounted

theorem withTicket_counted_endAtSample :
    (withTicket (counted s h) p x).endAtSample h o = (endedCycle s p h x o).post h .release := by
  refine congrArg (State.post · h .release) ?_
  simp only [withTicket, counted, State.endCycle, State.modifyHead, State.modifyThermal, PerHead.modify,
    PerHead.get_set_self, PerHead.set_set, endedCycle]
  rfl

theorem withTicket_counted_modifyThermal {f : Thermal → Thermal} :
    (withTicket (counted s h) p x).modifyThermal h f =
      { withTicket (counted s h) p x with thermal := s.thermal.set h (f ((counted s h).thermal.get h)) } := by
  simp only [State.modifyThermal, PerHead.modify, withTicket, counted, PerHead.get_set_self, PerHead.set_set]

/-! ## Setpoint stepping (R159, R160) -/

theorem moveDirection_eq_hold (hlow : (row.goal : Int) - row.band ≤ t) (hhigh : t ≤ row.goal + row.band) :
    moveDirection row t = .hold := by
  rw [moveDirection, if_neg (by omega), if_neg (by omega)]

theorem moveDirection_eq_dir
    (hdir : (dir = .up ∧ (t : Int) < row.goal - row.band) ∨ (dir = .down ∧ row.goal + row.band < t)) :
    moveDirection row t = dir := by
  rcases hdir with ⟨rfl, hlow⟩ | ⟨rfl, hhigh⟩
  · rw [moveDirection, if_pos (by omega)]
  · rw [moveDirection, if_neg (by omega), if_pos hhigh]

/-- The step of a move from the head's cycle as it stands before the sample (R160). -/
def stepAfter (s : State) (h : HeadId) (dir : MoveDir) : Nat :=
  let y := (s.thermal.get h).cycle
  let row := s.pass.get y.cls
  if y.prevDir = dir ∧ row.multiStep = true then min (y.step + 1) 15 else row.baseStep

/-- The setpoint after a move of `step` (R160). -/
def setpointAfter (s : State) (h : HeadId) (step : Nat) (dir : MoveDir) : Nat :=
  let th := s.thermal.get h
  let row := s.pass.get th.cycle.cls
  clamp row.defSetpoint row.ceiling (if dir = .up then th.setpoint + step else th.setpoint - step)

theorem stepSetpoint_of_hold
    (hdir : moveDirection (s.pass.get (s.thermal.get h).cycle.cls) t = .hold) :
    (withTicket (counted s h) p x).stepSetpoint h t =
      movedCycle s p h x (s.thermal.get h).setpoint (s.pass.get (s.thermal.get h).cycle.cls).baseStep
        .hold := by
  have hcycle : (withTicket (counted s h) p x).thermal.get h = _ := counted_thermal
  have hrow : (withTicket (counted s h) p x).pass = s.pass := rfl
  simp only [State.stepSetpoint, hcycle, hrow, hdir, withTicket_counted_modifyThermal, counted_thermal]
  rfl

theorem stepSetpoint_of_move (hmove : dir = .up ∨ dir = .down)
    (hdir : moveDirection (s.pass.get (s.thermal.get h).cycle.cls) t = dir) :
    (withTicket (counted s h) p x).stepSetpoint h t =
      let step := stepAfter s h dir
      let sp := setpointAfter s h step dir
      if sp = (s.thermal.get h).setpoint then movedCycle s p h x sp step dir
      else (movedCycle s p h x sp step dir).post h (.setpoint sp) := by
  have hcycle : (withTicket (counted s h) p x).thermal.get h = _ := counted_thermal
  have hrow : (withTicket (counted s h) p x).pass = s.pass := rfl
  rcases hmove with rfl | rfl <;>
    simp only [State.stepSetpoint, hcycle, hrow, hdir, withTicket_counted_modifyThermal, counted_thermal] <;>
    rfl

/-! ## The judgement of a sample (R154) -/

theorem judgeSample_eq (hplaten : (s.thermal.get h).cycle.platen = p)
    (hcls : (s.thermal.get h).cycle.cls = c) (hrow : s.pass.get c = row) :
    (withTicket (counted s h) p (withCredit k c n)).judgeSample h t =
      let x := sampledTicket row t k c n
      let v := withTicket (counted s h) p x
      if row.scorchTemp ≤ t ∧ row.scorchLimit ≤ x.scorches then
        ((v.spoil p .scorched).endAtSample h .transit, .scorched)
      else if x.meetsTarget c then
        ((withTicket (counted s h) p (x.completeCycle c)).endAtSample h .transit, .complete)
      else if row.maxSamples ≤ (s.thermal.get h).cycle.samples + 1 then
        ((v.judgeShort p c).1.endAtSample h (v.judgeShort p c).2.1, (v.judgeShort p c).2.2)
      else (v.stepSetpoint h t, .continue_) := by
  have hcycle : (withTicket (counted s h) p (withCredit k c n)).thermal.get h = _ := counted_thermal
  have hpass : (withTicket (counted s h) p (withCredit k c n)).pass.get c = row := hrow
  by_cases hscorch : row.scorchTemp ≤ t
  · simp only [State.judgeSample, hcycle, hplaten, hcls, hpass, hscorch, decide_true, if_true, true_and,
      Bool.true_and, decide_eq_true_eq, withTicket_modifyTicket, withTicket_ticket, withCredit_scorches,
      sampledTicket_of_scorching]
  · simp only [State.judgeSample, hcycle, hplaten, hcls, hpass, hscorch, decide_false, if_false, false_and,
      Bool.false_and, Bool.false_eq_true, withTicket_modifyTicket, withTicket_ticket,
      sampledTicket_of_cooler hscorch]

theorem sampledTicket_scorched_iff :
    (row.scorchTemp ≤ t ∧ row.scorchLimit ≤ (sampledTicket row t k c n).scorches) ↔
      (row.scorchTemp ≤ t ∧ row.scorchLimit ≤ k.scorches + 1) :=
  and_congr_right fun hscorch => by rw [sampledTicket_of_scorching hscorch]

theorem shortSpoiled_of_presses (hpresses : x.presses = n) :
    shortSpoiled x c =
      { x with presses := n + 1, disposition := .spoiled, reason := some (shortReason c) } := by
  rw [shortSpoiled, hpresses]

theorem withTicket_counted_raise_endAtSample {kind : NoticeKind} {fields : List Field} :
    ((withTicket (counted s h) p x).raise kind fields).endAtSample h o =
      ((endedCycle s p h x o).raise kind fields).post h .release := by
  refine congrArg (State.post · h .release) ?_
  simp only [withTicket, counted, State.endCycle, State.modifyHead, State.modifyThermal, PerHead.modify,
    State.raise_heads, State.raise_thermal, PerHead.get_set_self, PerHead.set_set, endedCycle]
  rfl

section
variable (hplaten : (s.thermal.get h).cycle.platen = p) (hcls : (s.thermal.get h).cycle.cls = c)
  (hrow : s.pass.get c = row)
include hplaten hcls hrow

theorem judgeSample_of_scorched (hgood : k.disposition = .good)
    (hscorched : row.scorchTemp ≤ t ∧ row.scorchLimit ≤ k.scorches + 1) :
    (withTicket (counted s h) p (withCredit k c n)).judgeSample h t =
      ((((endedCycle s p h { sampledTicket row t k c n with
            disposition := .spoiled, reason := some .scorched } .transit).raise .garmentSpoiled
          [(6, p.val), (2, 0), (8, k.line.val), (3, 4)]).post h .release), .scorched) := by
  obtain ⟨hdisposition, -, -, hline, -⟩ := sampledTicket_keeps row t k c n
  rw [judgeSample_eq hplaten hcls hrow]
  simp only [if_pos (sampledTicket_scorched_iff.mpr hscorched)]
  rw [State.spoil_of_good withTicket_ticket (hdisposition.trans hgood), withTicket_modifyTicket,
    withTicket_counted_raise_endAtSample, hline]
  rfl

theorem judgeSample_of_met (hgood : k.disposition = .good) (hstage : k.stage = cycleFrom c)
    (hscorched : ¬ (row.scorchTemp ≤ t ∧ row.scorchLimit ≤ k.scorches + 1))
    (hmet : ∃ g, k.target c = some g ∧ g ≤ n) :
    (withTicket (counted s h) p (withCredit k c n)).judgeSample h t =
      ((endedCycle s p h { sampledTicket row t k c n with stage := cycleTo c } .transit).post h .release,
        .complete) := by
  obtain ⟨hdisposition, hkept, -, -, -⟩ := sampledTicket_keeps row t k c n
  rw [judgeSample_eq hplaten hcls hrow]
  simp only [if_neg (mt sampledTicket_scorched_iff.mp hscorched),
    if_pos (sampledTicket_meetsTarget_iff.mpr hmet)]
  rw [Ticket.completeCycle_of_due (hdisposition.trans hgood) (hkept.trans hstage),
    withTicket_counted_endAtSample]

/-- The sample limit is reached: the judgement of a short cycle follows (R158). -/
theorem judgeSample_of_limit (hscorched : ¬ (row.scorchTemp ≤ t ∧ row.scorchLimit ≤ k.scorches + 1))
    (hmet : ¬ ∃ g, k.target c = some g ∧ g ≤ n)
    (hlimit : row.maxSamples ≤ (s.thermal.get h).cycle.samples + 1) :
    (withTicket (counted s h) p (withCredit k c n)).judgeSample h t =
      let r := (withTicket (counted s h) p (sampledTicket row t k c n)).judgeShort p c
      (r.1.endAtSample h r.2.1, r.2.2) := by
  rw [judgeSample_eq hplaten hcls hrow]
  simp only [if_neg (mt sampledTicket_scorched_iff.mp hscorched),
    if_neg (mt sampledTicket_meetsTarget_iff.mp hmet), if_pos hlimit]

theorem judgeSample_of_going (hscorched : ¬ (row.scorchTemp ≤ t ∧ row.scorchLimit ≤ k.scorches + 1))
    (hmet : ¬ ∃ g, k.target c = some g ∧ g ≤ n)
    (hlimit : (s.thermal.get h).cycle.samples + 1 < row.maxSamples) :
    (withTicket (counted s h) p (withCredit k c n)).judgeSample h t =
      ((withTicket (counted s h) p (sampledTicket row t k c n)).stepSetpoint h t, .continue_) := by
  rw [judgeSample_eq hplaten hcls hrow]
  simp only [if_neg (mt sampledTicket_scorched_iff.mp hscorched),
    if_neg (mt sampledTicket_meetsTarget_iff.mp hmet), if_neg (Nat.not_le.mpr hlimit)]

theorem judgeSample_of_again (hscorched : ¬ (row.scorchTemp ≤ t ∧ row.scorchLimit ≤ k.scorches + 1))
    (hmet : ¬ ∃ g, k.target c = some g ∧ g ≤ n)
    (hlimit : row.maxSamples ≤ (s.thermal.get h).cycle.samples + 1)
    (hagain : k.presses + 1 ≤ s.params.repressLimit) :
    (withTicket (counted s h) p (withCredit k c n)).judgeSample h t =
      ((endedCycle s p h { sampledTicket row t k c n with presses := k.presses + 1 } .return_).post h
        .release, .shortReturn) := by
  obtain ⟨-, -, hpresses, -, -⟩ := sampledTicket_keeps row t k c n
  rw [judgeSample_of_limit hplaten hcls hrow hscorched hmet hlimit,
    State.judgeShort_of_again withTicket_ticket (hpresses ▸ hagain), withTicket_withTicket, hpresses]
  exact Prod.ext withTicket_counted_endAtSample rfl

theorem judgeSample_of_last (hgood : k.disposition = .good)
    (hscorched : ¬ (row.scorchTemp ≤ t ∧ row.scorchLimit ≤ k.scorches + 1))
    (hmet : ¬ ∃ g, k.target c = some g ∧ g ≤ n)
    (hlimit : row.maxSamples ≤ (s.thermal.get h).cycle.samples + 1)
    (hlast : s.params.repressLimit < k.presses + 1) :
    (withTicket (counted s h) p (withCredit k c n)).judgeSample h t =
      ((((endedCycle s p h { sampledTicket row t k c n with
            presses := k.presses + 1, disposition := .spoiled, reason := some (shortReason c) }
          .transit).raise .garmentSpoiled
            [(6, p.val), (2, 0), (8, k.line.val), (3, shortCode c)]).post h .release), .shortSpoiled) := by
  obtain ⟨hdisposition, -, hpresses, hline, -⟩ := sampledTicket_keeps row t k c n
  rw [judgeSample_of_limit hplaten hcls hrow hscorched hmet hlimit,
    State.judgeShort_of_last withTicket_ticket (hdisposition.trans hgood) (hpresses ▸ hlast),
    withTicket_withTicket, hline, shortSpoiled_of_presses hpresses]
  exact Prod.ext withTicket_counted_raise_endAtSample rfl

end

theorem bodyPressSample_of_absent (hhead : s.presentHead sel.toNat = none) :
    bodyPressSample sel arg s = (answer0 .notFound, s) := by
  simp only [bodyPressSample, hhead]

theorem bodyPressSample_of_releasing (hhead : s.presentHead sel.toNat = some h)
    (hstate : (s.heads.get h).state = .releasing) : bodyPressSample sel arg s = (answer0 .late, s) := by
  simp only [bodyPressSample, hhead, hstate]

theorem bodyPressSample_of_idle (hhead : s.presentHead sel.toNat = some h)
    (hclosed : (s.heads.get h).state ≠ .closed) (hreleasing : (s.heads.get h).state ≠ .releasing) :
    bodyPressSample sel arg s = (lateOrBad (s.heads.get h), s) := by
  have hanswer : lateOrBad (s.heads.get h) =
      if (s.heads.get h).late then answer0 .late else answer0 .badState := apply_ite answer0 ..
  cases hstate : (s.heads.get h).state with
  | closed => exact absurd hstate hclosed
  | releasing => exact absurd hstate hreleasing
  | _ =>
    simp only [bodyPressSample, hhead, hstate, hanswer]
    split <;> rfl

theorem bodyPressSample_of_closed {r : CycleResult} {code : Nat} (hhead : s.presentHead sel.toNat = some h)
    (hstate : (s.heads.get h).state = .closed) (hplaten : (s.thermal.get h).cycle.platen = p)
    (hcls : (s.thermal.get h).cycle.cls = c) (hrow : s.pass.get c = row) (hticket : s.ticket p = some k)
    (hn : min 65535 (k.credit c + incrementOf row (bitsAt arg 0 8)) = n)
    (hjudge : (withTicket (counted s h) p (withCredit k c n)).judgeSample h (bitsAt arg 0 8) = (u, r))
    (hsp : (u.thermal.get h).setpoint = sp) (hcode : cycleResultCode r = code) :
    bodyPressSample sel arg s = (answer .ok [(16, n), (8, sp), (3, code)], u) := by
  subst hplaten hcls hrow hn hsp hcode
  simp only [bodyPressSample, hhead, hstate, State.countSample_eq hticket, hjudge, withTicket_ticket,
    Option.map_some, Option.getD_some, withCredit_credit]

theorem State.post_thermal (s : State) (h : HeadId) (m : Assignment) : (s.post h m).thermal = s.thermal := by
  obtain ⟨-, -, hthermal, -, -⟩ := State.setMailbox_keeps s h (mergePost (s.heads.get h).mailbox m)
  exact hthermal

/-- A posting leaves the setpoint. -/
theorem setpoint_of_post {m : Assignment} (hsp : (u.thermal.get h).setpoint = sp) :
    ((u.post h m).thermal.get h).setpoint = sp := by
  rwa [State.post_thermal]

theorem setpoint_of_set_cycle (ths : PerHead Thermal) (h : HeadId) (y : Cycle) :
    ((ths.set h { ths.get h with cycle := y }).get h).setpoint = (ths.get h).setpoint := by
  rw [PerHead.get_set_self]

theorem setpoint_of_set (ths : PerHead Thermal) (h : HeadId) (sp : Nat) (y : Cycle) :
    ((ths.set h ⟨sp, y⟩).get h).setpoint = sp := by
  rw [PerHead.get_set_self]

end

/-- Settles O46: the ticket with its sample counted decides, in the order of R154. -/
theorem pressSample : Obligations.PressSample := by
  intro sel arg s hrecv put
  refine ⟨fun hsel => takeFrame_answers hrecv rfl
    (bodyPressSample_of_absent (selector_names_no_head hsel)), fun h hsel hpresent => ?_⟩
  have hhead := State.presentHead_eq_some hsel hpresent
  refine ⟨fun hstate => takeFrame_answers hrecv rfl (bodyPressSample_of_releasing hhead hstate),
    fun hclosed hreleasing => takeFrame_answers hrecv rfl
      (bodyPressSample_of_idle hhead hclosed hreleasing), fun k hstate hticket => ?_⟩
  intro th y p row t credit k1 k2 scorched met ended spoiled goesOn reports
  have judged {u : State} {r : CycleResult} {sp code : Nat}
      (hjudge : (withTicket (counted s h) p (withCredit k y.cls credit)).judgeSample h t = (u, r))
      (hsp : (u.thermal.get h).setpoint = sp) (hcode : cycleResultCode r = code) : reports u sp code :=
    takeFrame_answers hrecv rfl
      (bodyPressSample_of_closed hhead hstate rfl rfl rfl hticket rfl hjudge hsp hcode)
  have hended := setpoint_of_set_cycle s.thermal h ⟨false, 0, .dry, 0, .none, 1⟩
  refine ⟨fun hgood hscorched => judged (judgeSample_of_scorched rfl rfl rfl hgood hscorched)
      (setpoint_of_post hended) rfl,
    fun hgood hstage hscorched hmet => judged
      (judgeSample_of_met rfl rfl rfl hgood hstage hscorched hmet) (setpoint_of_post hended) rfl,
    fun hgood hscorched hmet hlimit =>
      ⟨fun hagain => judged (judgeSample_of_again rfl rfl rfl hscorched hmet hlimit hagain)
          (setpoint_of_post hended) rfl,
        fun hlast => judged (judgeSample_of_last rfl rfl rfl hgood hscorched hmet hlimit hlast)
          (setpoint_of_post hended) rfl⟩,
    fun hscorched hmet hlimit => ?goes⟩
  have hgoing := judgeSample_of_going (k := k) (t := t) (n := credit) rfl rfl rfl hscorched hmet hlimit
  have hmoved (sp step : Nat) (dir : MoveDir) := setpoint_of_set s.thermal h sp
    { y with samples := y.samples + 1, prevDir := dir, step := step }
  refine ⟨fun hlow hhigh => judged (hgoing.trans (congrArg (·, CycleResult.continue_)
    (stepSetpoint_of_hold (moveDirection_eq_hold hlow hhigh)))) (hmoved ..) rfl,
    fun dir hdir => ?_⟩
  intro step sp
  have hmove := stepSetpoint_of_move (s := s) (h := h) (p := p) (x := k2)
    (hdir.imp And.left And.left) (moveDirection_eq_dir hdir)
  exact ⟨fun hsame => judged (hgoing.trans (congrArg (·, CycleResult.continue_)
      (hmove.trans (if_pos hsame)))) (hmoved ..) rfl,
    fun hchanged => judged (hgoing.trans (congrArg (·, CycleResult.continue_)
      (hmove.trans (if_neg hchanged)))) (setpoint_of_post (hmoved ..)) rfl⟩

end Sys2Proof.Machine
end

section
/-! PROOF. The expiries of the press timers (R138, R139, R142): the platen is sent, the slot emptied,
the late mark set, and the head isolated or freed. -/

namespace Sys2Proof.Machine

open Sys2Proof

section
variable {s u : State} {h : HeadId} {p : PlatenIx} {k : Ticket} {kind : TimerKind} {l : RackList}
  {o : PressOutcome}

theorem Head.runs_iff {d : Head} : d.runs kind = true ↔ ∃ n, d.timer = some ⟨kind, n⟩ := by
  unfold Head.runs
  rcases d.timer with - | ⟨running, n⟩ <;> simp

/-- Without its timer running an expiry row does nothing. -/
theorem exec_expiryRow_of_not_running (hruns : ¬ ∃ n, (s.heads.get h).timer = some ⟨kind, n⟩) :
    exec (expiryRow h kind) s = .next s := by
  have hstill := mt Head.runs_iff.mp hruns
  cases kind <;> exact if_neg hstill

theorem exec_expiryRow_of_runs (hruns : ∃ n, (s.heads.get h).timer = some ⟨kind, n⟩)
    (hexpire : s.expire h kind = u) : exec (expiryRow h kind) s = .next u := by
  obtain ⟨n, hrun⟩ := hruns
  rw [exec_expiryRow_of_running hrun, hexpire]

/-! ## A head out of a timeout (R138, R139) -/

/-- The head marked late. -/
def lateMarked (u : State) (h : HeadId) : State := u.modifyHead h fun x => { x with late := true }

/-- The head marked late and out of its timeout, with isolation set to `isolation` (R138, R139). -/
def outOfTimeout (u : State) (h : HeadId) (isolation : Bool) (p : PlatenIx) (code : Nat) : State :=
  if isolation then
    ((lateMarked u h).modifyHead h fun x =>
      { x with state := .isolated, platen := none, origin := .cureRush, outcome := .transit,
               closeOnTaken := false, timer := none }).raise .headIsolated
      [(6, p.val), (2, 0), (1, headCode h), (2, code)]
  else freed (lateMarked u h) h

theorem State.afterTimeout_eq {isolation : Bool} (hpress : u.press.isolation = isolation) :
    (lateMarked u h).afterTimeout h kind p = outOfTimeout u h isolation p (isolatedCode kind) := by
  have hisolation : (lateMarked u h).press.isolation = isolation := hpress
  cases isolation with
  | true =>
    rw [State.afterTimeout, if_pos hisolation, outOfTimeout, if_pos rfl]
    rfl
  | false =>
    rw [State.afterTimeout, if_neg (by simp [hisolation]), outOfTimeout, if_neg (by decide),
      State.freeHead_eq_freed]

theorem emptySlot_lateMarked (u : State) (h : HeadId) :
    emptySlot (lateMarked u h) h = lateMarked (emptySlot u h) h := by
  cases h <;> rfl

theorem goesBy_press : (goesBy u o l p).press = u.press := by cases o <;> rfl

/-! ## Step 2 of R138: the platen of a head whose cycle is idle -/

/-- The head's cycle made idle where the head is CLOSED (R138). -/
def idleCycle (s : State) (h : HeadId) : State :=
  if (s.heads.get h).state = .closed then s.endCycle h else s

theorem idleCycle_keeps (s : State) (h : HeadId) :
    (idleCycle s h).heads = s.heads ∧ (idleCycle s h).platens = s.platens ∧
      (idleCycle s h).press = s.press := by
  unfold idleCycle
  split <;> exact ⟨rfl, rfl, rfl⟩

section
variable (hplaten : (s.heads.get h).platen = some p) (hticket : s.ticket p = some k)
include hplaten hticket

theorem State.timeoutPlaten_of_not_good (hgood : k.disposition ≠ .good) :
    s.timeoutPlaten h = goesBy s .return_ (s.heads.get h).origin p := by
  simp only [State.timeoutPlaten, hplaten, hticket, if_neg hgood, State.sendPlaten_eq_goesBy hplaten]

theorem State.timeoutPlaten_of_again (hgood : k.disposition = .good)
    (hagain : s.press.retryLimit = 0 ∨ min 255 (k.headRetries + 1) ≤ s.press.retryLimit) :
    s.timeoutPlaten h =
      goesBy (withTicket s p { k with headRetries := min 255 (k.headRetries + 1) }) .return_
        (s.heads.get h).origin p := by
  have hlimit : ¬ (s.press.retryLimit ≠ 0 ∧ s.press.retryLimit < satAdd 255 k.headRetries 1) :=
    fun ⟨hset, hover⟩ => hagain.elim hset (Nat.not_le.mpr hover)
  have hsent : ((withTicket s p { k with headRetries := satAdd 255 k.headRetries 1 }).heads.get h).platen =
      some p := hplaten
  simp only [State.timeoutPlaten, hplaten, hticket, if_pos hgood, if_neg hlimit,
    State.modifyTicket_eq_withTicket hticket]
  exact State.sendPlaten_eq_goesBy hsent

theorem State.timeoutPlaten_of_last (hgood : k.disposition = .good) (hset : s.press.retryLimit ≠ 0)
    (hover : s.press.retryLimit < min 255 (k.headRetries + 1)) :
    s.timeoutPlaten h =
      goesBy ((withTicket s p
          { k with headRetries := min 255 (k.headRetries + 1), disposition := .spoiled,
                   reason := some .headRetries }).raise .garmentSpoiled
        [(6, p.val), (2, 0), (8, k.line.val), (3, 6)]) .transit (s.heads.get h).origin p := by
  have hlimit : s.press.retryLimit ≠ 0 ∧ s.press.retryLimit < satAdd 255 k.headRetries 1 := ⟨hset, hover⟩
  have hspoil := State.spoil_of_good (why := .headRetries) (withTicket_ticket (s := s) (p := p)
    (k := { k with headRetries := satAdd 255 k.headRetries 1 })) hgood
  rw [withTicket_modifyTicket] at hspoil
  have hsent : (((withTicket s p { k with headRetries := satAdd 255 k.headRetries 1 }).spoil p
      .headRetries).heads.get h).platen = some p := by
    rw [hspoil]
    exact hplaten
  simp only [State.timeoutPlaten, hplaten, hticket, if_pos hgood, if_pos hlimit,
    State.modifyTicket_eq_withTicket hticket]
  rw [State.sendPlaten_eq_goesBy hsent, hspoil]
  rfl

end

/-! ## The expiries -/

theorem State.pressTimeout_eq (hplaten : (s.heads.get h).platen = some p)
    (hsent : (idleCycle s h).timeoutPlaten h = u) (hpress : u.press = s.press) :
    s.pressTimeout h kind =
      (outOfTimeout (emptySlot u h) h s.press.isolation p (isolatedCode kind)).settle := by
  have hisolation : (emptySlot u h).press.isolation = s.press.isolation :=
    congrArg PressParams.isolation hpress
  rw [← State.afterTimeout_eq hisolation, ← hsent]
  simp only [State.pressTimeout, hplaten, Option.map_some, Option.getD_some,
    State.setMailbox_none_eq_emptySlot]
  rfl

theorem State.releaseTimeout_eq (hplaten : (s.heads.get h).platen = some p)
    (hsent : goesBy s (s.heads.get h).outcome (s.heads.get h).origin p = u) :
    s.releaseTimeout h =
      (outOfTimeout (if s.press.isolation then emptySlot u h else u) h s.press.isolation p 2).settle := by
  have hpress : u.press = s.press := hsent ▸ goesBy_press
  have hemptied : (if s.press.isolation then (lateMarked u h).setMailbox h none else lateMarked u h) =
      lateMarked (if s.press.isolation then emptySlot u h else u) h := by
    rw [State.setMailbox_none_eq_emptySlot, emptySlot_lateMarked, apply_ite (lateMarked · h)]
  have hisolation : (if s.press.isolation then emptySlot u h else u).press.isolation =
      s.press.isolation := by
    rw [← hpress]
    split <;> rfl
  have hout := State.afterTimeout_eq (h := h) (kind := .release) (p := p) hisolation
  simp only [State.releaseTimeout, hplaten, Option.map_some, Option.getD_some,
    State.sendPlaten_eq_goesBy hplaten, hsent]
  exact congrArg State.settle ((congrArg (State.afterTimeout · h .release p.val) hemptied).trans hout)

end

/-- Settles O49: each row acts where its timer runs, and the head leaves its timeout marked late. -/
theorem timerExpiries : Obligations.TimerExpiries := by
  intro h s d runs
  refine ⟨exec_expiryRow_of_not_running (kind := .close), exec_expiryRow_of_not_running (kind := .sample),
    exec_expiryRow_of_not_running (kind := .release), exec_expiryRow_of_not_running (kind := .park),
    fun hruns => exec_expiryRow_of_runs (kind := .park) hruns rfl, fun p hplaten => ?_⟩
  intro leaves
  refine ⟨fun hruns => exec_expiryRow_of_runs (kind := .release) hruns
    (State.releaseTimeout_eq hplaten rfl), fun k hticket => ?_⟩
  intro retries idle ticketed expires
  obtain ⟨hheads, hplatens, hpress⟩ := idleCycle_keeps s h
  have hplaten' : ((idleCycle s h).heads.get h).platen = some p := hheads ▸ hplaten
  have hticket' : (idleCycle s h).ticket p = some k :=
    (congrArg (fun ps => (Table.get ps p).ticket) hplatens).trans hticket
  have horigin : ((idleCycle s h).heads.get h).origin = d.origin := by rw [hheads]
  have hwritten (x : Ticket) : withTicket (idleCycle s h) p x = ticketed x := by
    rw [withTicket, hplatens]
    rfl
  have expired {u : State} (hsent : (idleCycle s h).timeoutPlaten h = u) (hkept : u.press = s.press) :
      expires u :=
    ⟨fun hruns => exec_expiryRow_of_runs (kind := .close) hruns
        (State.pressTimeout_eq hplaten hsent hkept),
      fun hruns => exec_expiryRow_of_runs (kind := .sample) hruns
        (State.pressTimeout_eq hplaten hsent hkept)⟩
  refine ⟨fun hgood hagain => expired ?_ (goesBy_press.trans hpress),
    fun hgood hset hover => expired ?_ (goesBy_press.trans hpress),
    fun hgood => expired ?_ (goesBy_press.trans hpress)⟩
  · rw [State.timeoutPlaten_of_again hplaten' hticket' hgood (by rwa [hpress]), hwritten, horigin]
  · rw [State.timeoutPlaten_of_last hplaten' hticket' hgood (by rwa [hpress]) (by rwa [hpress]),
      hwritten, horigin]
  · rw [State.timeoutPlaten_of_not_good hplaten' hticket' hgood, horigin]
    rfl

end Sys2Proof.Machine
end

section
/-! PROOF. READ_BED (R123), READ_PRESS (R145) and READ_THERMAL (R164): each selector names a group, and
bit 31 of the argument its second word. -/

namespace Sys2Proof.Machine

open Sys2Proof

section
variable {s : State} {h : HeadId} {bed : Bed} {sel : Selector} {arg : Arg} {fs : List Field} {l : RackList}
  {p : PlatenIx} {n : Nat}

/-! ## The words of a group -/

theorem groupWord_of_first (h31 : arg.getLsbD 31 = false) :
    groupWord arg fs = packWord (splitFields 32 fs).1 := by
  simp only [groupWord, h31, Bool.false_eq_true, if_false]

theorem groupWord_of_second (h31 : arg.getLsbD 31 = true) :
    groupWord arg fs = packWord (splitFields 32 fs).2 := by
  simp only [groupWord, h31, if_true]

/-- A group of fields that all read 0 and fit one word reads 0 in both words. -/
theorem groupWord_eq_zero (hfirst : packWord (splitFields 32 fs).1 = 0)
    (hsecond : packWord (splitFields 32 fs).2 = 0) : groupWord arg fs = 0 := by
  unfold groupWord
  split
  · exact hsecond
  · exact hfirst

/-! ## READ_BED -/

theorem bedGroup_eq_none (hn : 3 ≤ n) : bedGroup s bed n = none := by
  match n, hn with
  | _ + 3, _ => rfl

theorem bodyReadBed_of_no_bed (hbed : bedOf (bitsAt arg 0 8) = none) :
    bodyReadBed sel arg s = (answer0 .notFound, s) := by
  simp only [bodyReadBed, hbed]

theorem bodyReadBed_of_no_group (hgroup : ∀ bed, bedGroup s bed sel.toNat = none) :
    bodyReadBed sel arg s = (answer0 .notFound, s) := by
  unfold bodyReadBed
  split
  · rfl
  · simp only [hgroup]

theorem bodyReadBed_of_group (hbed : bitsAt arg 0 8 = bedCode bed)
    (hgroup : bedGroup s bed sel.toNat = some fs) :
    bodyReadBed sel arg s = (⟨.ok, groupWord arg fs⟩, s) := by
  have hnamed : bedOf (bitsAt arg 0 8) = some bed := by rw [hbed, bedOf_bedCode]
  simp only [bodyReadBed, hnamed, hgroup]

theorem bedGroup_run_none (hrun : (s.beds.get bed).run = none) :
    bedGroup s bed 1 = some [flag false] := by
  simp only [bedGroup, hrun]

theorem bedGroup_run_some {r : StripeRun} (hrun : (s.beds.get bed).run = some r) :
    bedGroup s bed 1 =
      some [flag true, (4, r.segment.val), (1, runDirCode r.dir), (8, r.first), (9, r.count),
        (9, r.sent)] := by
  simp only [bedGroup, hrun]

/-- The group LINK: the bed being served, 0 where there is none, and the last served one. -/
theorem bedGroup_link :
    bedGroup s bed 2 =
      some [(2, match s.link.sending with | none => 0 | some x => bedCode x.bed + 1),
        (1, bedCode s.link.lastServed)] := by
  unfold bedGroup
  cases s.link.sending <;> rfl

/-! ## READ_PRESS -/

theorem bodyReadPress_of_no_group (hsel : 5 ≤ sel.toNat) :
    bodyReadPress sel arg s = (answer0 .notFound, s) := by
  unfold bodyReadPress
  split
  · omega
  · omega
  · exact if_neg (by omega)

theorem bodyReadPress_of_absent (hhead : s.presentHead (bitsAt arg 0 1) = none) (hsel : sel.toNat < 3) :
    bodyReadPress sel arg s = (answer0 .notFound, s) := by
  unfold bodyReadPress
  split
  · omega
  · omega
  · simp only [hhead, ite_self]

theorem bodyReadPress_of_head (hhead : s.presentHead (bitsAt arg 0 1) = some h) (hsel : sel.toNat < 3)
    (hgroup : headGroup s h sel.toNat = fs) :
    bodyReadPress sel arg s = (⟨.ok, groupWord arg fs⟩, s) := by
  unfold bodyReadPress
  split
  · omega
  · omega
  · simp only [hhead, if_pos hsel, hgroup]

theorem bodyReadPress_rotation (hsel : sel = 4) :
    bodyReadPress sel arg s =
      (⟨.ok, groupWord arg [(1, arbModeCode s.press.mode), (2, level1Code s.level1),
        (1, level2Code s.level2)]⟩, s) := by
  subst hsel
  rfl

theorem listOf_listCode (l : RackList) : listOf (listCode l) = l := by cases l <;> rfl

theorem bodyReadPress_list (hsel : sel = 3) (hlist : bitsAt arg 0 2 = listCode l)
    (hat : (s.lists.get l)[bitsAt arg 2 6]? = some p) :
    bodyReadPress sel arg s =
      (⟨.ok, groupWord arg [(6, p.val), (6, (s.lists.get l).length)]⟩, s) := by
  subst hsel
  have hsel : (3 : Selector).toNat = 3 := rfl
  simp only [bodyReadPress, hsel, hlist, listOf_listCode, hat]

theorem bodyReadPress_list_beyond (hsel : sel = 3) (hlist : bitsAt arg 0 2 = listCode l)
    (hbeyond : (s.lists.get l).length ≤ bitsAt arg 2 6) :
    bodyReadPress sel arg s = (⟨.notFound, groupWord arg [(6, (s.lists.get l).length)]⟩, s) := by
  subst hsel
  have hsel : (3 : Selector).toNat = 3 := rfl
  simp only [bodyReadPress, hsel, hlist, listOf_listCode, List.getElem?_eq_none hbeyond]

/-- The group HEAD, a platen reading as its number and none as 0. -/
theorem headGroup_head :
    headGroup s h 0 =
      [flag (s.present h), (3, headStateCode (s.heads.get h).state), (1, classCode (s.heads.get h).cls),
        (6, match (s.heads.get h).platen with | some p => p.val | none => 0),
        (2, listCode (s.heads.get h).origin), (1, outcomeCode (s.heads.get h).outcome),
        flag (s.heads.get h).declinePending, flag (s.heads.get h).late,
        (3, timerCode (s.heads.get h).timer)] := by
  have hplaten : ((s.heads.get h).platen.map Fin.val).getD 0 =
      match (s.heads.get h).platen with | some p => p.val | none => 0 := by
    cases (s.heads.get h).platen <;> rfl
  rw [← hplaten]
  rfl

theorem headGroup_mailbox {m : Option Assignment} (hslot : (s.heads.get h).mailbox = m) :
    headGroup s h 1 =
      [(3, assignmentCode m), flag (s.heads.get h).closeOnTaken] ++ mailboxFields m := by
  subst hslot
  rfl

theorem headGroup_timer {m : Option Timer} (htimer : (s.heads.get h).timer = m) :
    headGroup s h 2 = [(3, timerCode m), (13, timeLeft m)] := by
  subst htimer
  rfl

/-! ## READ_THERMAL -/

theorem thermalGroup_eq_none (hn : 2 ≤ n) : thermalGroup s h n = none := by
  match n, hn with
  | _ + 2, _ => rfl

theorem bodyReadThermal_of_absent (hhead : s.presentHead (bitsAt arg 0 1) = none) :
    bodyReadThermal sel arg s = (answer0 .notFound, s) := by
  simp only [bodyReadThermal, hhead]

theorem bodyReadThermal_of_no_group (hsel : 2 ≤ sel.toNat) :
    bodyReadThermal sel arg s = (answer0 .notFound, s) := by
  unfold bodyReadThermal
  split
  · rfl
  · simp only [thermalGroup_eq_none hsel]

theorem bodyReadThermal_of_group (hhead : s.presentHead (bitsAt arg 0 1) = some h)
    (hgroup : thermalGroup s h sel.toNat = some fs) :
    bodyReadThermal sel arg s = (⟨.ok, groupWord arg fs⟩, s) := by
  simp only [bodyReadThermal, hhead, hgroup]

end

/-- Settles O50: the selector names one of the groups, or none. -/
theorem readBedPressAndThermal : Obligations.ReadBedPressAndThermal := by
  refine ⟨fun q sel arg s hq hrecv => ?beds, fun q sel arg s hq hrecv => ?heads⟩
  case beds =>
    have haccepted : Cmd.readBed.acceptedOn q = true := by rcases hq with rfl | rfl <;> rfl
    intro n answers
    have told {x : Answer} (hbody : bodyReadBed sel arg s = (x, s)) : answers x :=
      takeFrame_answers hrecv haccepted hbody
    refine ⟨fun hout => hout.elim (fun hn => told (bodyReadBed_of_no_bed (bedOf_eq_none hn)))
      fun hsel => told (bodyReadBed_of_no_group fun _ => bedGroup_eq_none hsel), fun bed hn => ?_⟩
    intro k
    have grouped {fs : List Field} {w : Word} (hgroup : bedGroup s bed sel.toNat = some fs)
        (hword : groupWord arg fs = w) : answers ⟨.ok, w⟩ :=
      hword ▸ told (bodyReadBed_of_group hn hgroup)
    refine ⟨?session, ?sent, ?noRun, ?run, ?link, ?empty⟩
    case session =>
      rintro rfl h31
      exact grouped rfl (groupWord_of_first h31)
    case sent =>
      rintro rfl h31
      exact grouped rfl (groupWord_of_second h31)
    case noRun =>
      rintro rfl hrun
      exact grouped (bedGroup_run_none hrun) (groupWord_eq_zero rfl rfl)
    case run =>
      rintro r rfl hrun h31
      exact grouped (bedGroup_run_some hrun) (groupWord_of_first h31)
    case link =>
      rintro rfl h31
      exact grouped bedGroup_link (groupWord_of_first h31)
    case empty =>
      rintro (rfl | rfl) h31
      · cases hrun : (s.beds.get bed).run with
        | none => exact grouped (bedGroup_run_none hrun) (groupWord_of_second h31)
        | some r => exact grouped (bedGroup_run_some hrun) (groupWord_of_second h31)
      · exact grouped bedGroup_link (groupWord_of_second h31)
  case heads =>
    have hpress : Cmd.readPress.acceptedOn q = true := by rcases hq with rfl | rfl <;> rfl
    have htherm : Cmd.readThermal.acceptedOn q = true := by rcases hq with rfl | rfl <;> rfl
    intro press therm
    have pressTold {x : Answer} (hbody : bodyReadPress sel arg s = (x, s)) : press x :=
      takeFrame_answers hrecv hpress hbody
    have thermTold {x : Answer} (hbody : bodyReadThermal sel arg s = (x, s)) : therm x :=
      takeFrame_answers hrecv htherm hbody
    refine ⟨fun hsel => pressTold (bodyReadPress_of_no_group hsel),
      fun hsel => thermTold (bodyReadThermal_of_no_group hsel),
      fun hsel => pressTold (bodyReadPress_rotation hsel), fun l hsel hlist =>
        ⟨fun p hat => pressTold (bodyReadPress_list hsel hlist hat),
          fun hbeyond => pressTold (bodyReadPress_list_beyond hsel hlist hbeyond)⟩, fun h hcode => ?_⟩
    intro d th
    have hnone (habsent : s.present h = false) : s.presentHead (bitsAt arg 0 1) = none := by
      have hnamed : headOf (bitsAt arg 0 1) = some h := by
        rw [show bitsAt arg 0 1 = headCode h from hcode]
        cases h <;> rfl
      simp only [State.presentHead, hnamed, habsent, Bool.false_eq_true, if_false]
    refine ⟨fun habsent hsel => pressTold (bodyReadPress_of_absent (hnone habsent) hsel),
      fun habsent => thermTold (bodyReadThermal_of_absent (hnone habsent)), fun hpresent => ?_⟩
    have hhead := State.presentHead_eq_some hcode hpresent
    have headTold {fs : List Field} (hsel : sel.toNat < 3) (hgroup : headGroup s h sel.toNat = fs) :
        press ⟨.ok, groupWord arg fs⟩ :=
      pressTold (bodyReadPress_of_head hhead hsel hgroup)
    have mailboxTold {m : Option Assignment} {fs : List Field} (hsel : sel = 1) (hslot : d.mailbox = m)
        (hfields : [(3, assignmentCode m), flag d.closeOnTaken] ++ mailboxFields m = fs) :
        press ⟨.ok, groupWord arg fs⟩ := by
      subst hsel hfields
      exact headTold (by decide) (headGroup_mailbox hslot)
    have timerTold {m : Option Timer} (hsel : sel = 2) (htimer : d.timer = m) :
        press ⟨.ok, groupWord arg [(3, timerCode m), (13, timeLeft m)]⟩ := by
      subst hsel
      exact headTold (by decide) (headGroup_timer htimer)
    refine ⟨?head, fun hsel hslot => ?none, fun p c sp ch hsel hslot => mailboxTold hsel hslot rfl,
      fun c sp hsel hslot => mailboxTold hsel hslot rfl, fun sp hsel hslot => mailboxTold hsel hslot rfl,
      fun hsel htimer => ?stopped, fun kind n hsel htimer => ?running, ?thermal,
      ?cycle⟩
    case head =>
      rintro rfl
      have hgroup := headGroup_head (s := s) (h := h)
      rw [hpresent] at hgroup
      exact headTold (by decide) hgroup
    case none =>
      have hempty : mailboxFields d.mailbox = [] := by rcases hslot with hslot | hslot <;> rw [hslot] <;> rfl
      exact mailboxTold hsel rfl (by rw [hempty, List.append_nil])
    case stopped =>
      have hzero : groupWord arg [(3, timerCode none), (13, timeLeft none)] = 0 :=
        groupWord_eq_zero rfl rfl
      exact hzero ▸ timerTold hsel htimer
    case running =>
      have hleft : timeLeft (some ⟨kind, n⟩) = (n + 99) / 100 := rfl
      rw [htimer, ← hleft]
      exact timerTold hsel htimer
    case thermal =>
      rintro rfl
      exact thermTold (bodyReadThermal_of_group hhead rfl)
    case cycle =>
      rintro rfl
      exact thermTold (bodyReadThermal_of_group hhead rfl)

end Sys2Proof.Machine
end

section
/-! PROOF. CONFIG (R174): the table of the parameters, reads, refusals, and the writes to the tables
without rows (R40, R127). -/

namespace Sys2Proof.Machine

open Sys2Proof

/-! ## A parameter's value is what was put into it -/

theorem Params.value_put_self (v : Params) (k : LineParam) {x : Nat} (hx : x ≤ k.range.2) :
    (v.put k x).value k = x := by
  cases k with
  | matchPolicy =>
    have hcode : x = 0 ∨ x = 1 := Nat.le_one_iff_eq_zero_or_eq_one.mp hx
    rcases hcode with rfl | rfl <;> rfl
  | _ => rfl

theorem Params.value_put_ne (v : Params) {k j : LineParam} (x : Nat) (hj : j ≠ k) :
    (v.put k x).value j = v.value j := by
  cases k <;> cases j <;> first | rfl | exact absurd rfl hj

theorem PressParams.value_put_self (v : PressParams) (k : PressParam) {x : Nat} (hx : x ≤ k.range.2) :
    (v.put k x).value k = x := by
  have hcode (hx : x ≤ 1) : x = 0 ∨ x = 1 := Nat.le_one_iff_eq_zero_or_eq_one.mp hx
  cases k with
  | mode | isolation | parkPolicy | parkClass => rcases hcode hx with rfl | rfl <;> rfl
  | _ => rfl

theorem PressParams.value_put_ne (v : PressParams) {k j : PressParam} (x : Nat) (hj : j ≠ k) :
    (v.put k x).value j = v.value j := by
  cases k <;> cases j <;> first | rfl | exact absurd rfl hj

/-! ## The table of R174 -/

theorem lineTable_faithful {v : Params} {e : ConfigRow LineParam} (he : e ∈ lineTable v) :
    paramOf e.sel = some (.flat (.line e.param)) ∧ e.param.range = (e.low, e.high) ∧
      v.value e.param = e.value := by
  simp only [lineTable, List.mem_cons, List.not_mem_nil, or_false] at he
  rcases he with rfl | rfl | rfl | rfl | rfl <;>
    exact ⟨by dsimp only; decide, rfl, rfl⟩

theorem fabricTable_faithful {v : FabricRow} {e : ConfigRow FabricParam} (he : e ∈ fabricTable v) :
    paramOf e.sel = some (.row (.fabric e.param)) ∧ e.param.range = (e.low, e.high) ∧
      v.value e.param = e.value := by
  simp only [fabricTable, List.mem_cons, List.not_mem_nil, or_false] at he
  rcases he with rfl | rfl | rfl | rfl | rfl | rfl | rfl | rfl | rfl <;>
    exact ⟨by dsimp only; decide, rfl, rfl⟩

theorem pressTable_faithful {v : PressParams} {e : ConfigRow PressParam} (he : e ∈ pressTable v) :
    paramOf e.sel = some (.flat (.press e.param)) ∧ e.param.range = (e.low, e.high) ∧
      v.value e.param = e.value := by
  have hflag : (if v.isolation then 1 else 0) = v.isolation.toNat := by cases v.isolation <;> rfl
  simp only [pressTable, hflag, List.mem_cons, List.not_mem_nil, or_false] at he
  rcases he with rfl | rfl | rfl | rfl | rfl | rfl | rfl | rfl | rfl | rfl | rfl <;>
    exact ⟨by dsimp only; decide, rfl, rfl⟩

theorem passTable_faithful {v : PassRow} {e : ConfigRow PassParam} (he : e ∈ passTable v) :
    paramOf e.sel = some (.row (.pass e.param)) ∧ e.param.range = (e.low, e.high) ∧
      v.value e.param = e.value := by
  have hflag : (if v.multiStep then 1 else 0) = v.multiStep.toNat := by cases v.multiStep <;> rfl
  simp only [passTable, hflag, List.mem_cons, List.not_mem_nil, or_false] at he
  rcases he with rfl | rfl | rfl | rfl | rfl | rfl | rfl | rfl | rfl | rfl | rfl <;>
    exact ⟨by dsimp only; decide, rfl, rfl⟩

section
variable {sel : Selector} {arg : Arg} {s t : State} {x n : Nat}

/-! ## What a selector names -/

/-- The selector names no parameter. -/
theorem paramOf_eq_none
    (hnot : ¬ ((bitsAt sel 4 3 = 0 ∧ bitsAt sel 0 4 < 5) ∨ (bitsAt sel 4 3 = 1 ∧ bitsAt sel 0 4 < 9) ∨
      (bitsAt sel 4 3 = 2 ∧ bitsAt sel 0 4 < 11) ∨ (bitsAt sel 4 3 = 3 ∧ bitsAt sel 0 4 < 11))) :
    paramOf sel = none := by
  simp only [not_or, not_and, Nat.not_lt] at hnot
  obtain ⟨hline, hfabric, hpress, hpass⟩ := hnot
  unfold paramOf
  dsimp only
  split
  · next htable => exact Option.map_eq_none_iff.mpr (List.getElem?_eq_none (hline htable))
  · next htable => exact Option.map_eq_none_iff.mpr (List.getElem?_eq_none (hfabric htable))
  · next htable => exact Option.map_eq_none_iff.mpr (List.getElem?_eq_none (hpress htable))
  · next htable => exact Option.map_eq_none_iff.mpr (List.getElem?_eq_none (hpass htable))
  · rfl

theorem paramOf_fabric (htable : bitsAt sel 4 3 = 1) (hnumber : bitsAt sel 0 4 < 9) :
    ∃ k, paramOf sel = some (.row (.fabric k)) := by
  have hlength : bitsAt sel 0 4 < fabricParams.length := hnumber
  exact ⟨fabricParams[bitsAt sel 0 4], by simp only [paramOf, htable, List.getElem?_eq_getElem hlength,
    Option.map_some]⟩

theorem paramOf_pass (htable : bitsAt sel 4 3 = 3) (hnumber : bitsAt sel 0 4 < 11) :
    ∃ k, paramOf sel = some (.row (.pass k)) := by
  have hlength : bitsAt sel 0 4 < passParams.length := hnumber
  exact ⟨passParams[bitsAt sel 0 4], by simp only [paramOf, htable, List.getElem?_eq_getElem hlength,
    Option.map_some]⟩

theorem paramOf_named
    (hnamed : (bitsAt sel 4 3 = 0 ∧ bitsAt sel 0 4 < 5) ∨ (bitsAt sel 4 3 = 1 ∧ bitsAt sel 0 4 < 9) ∨
      (bitsAt sel 4 3 = 2 ∧ bitsAt sel 0 4 < 11) ∨ (bitsAt sel 4 3 = 3 ∧ bitsAt sel 0 4 < 11)) :
    ∃ q, paramOf sel = some q := by
  rcases hnamed with ⟨htable, hnumber⟩ | ⟨htable, hnumber⟩ | ⟨htable, hnumber⟩ | ⟨htable, hnumber⟩
  · have hlength : bitsAt sel 0 4 < lineParams.length := hnumber
    exact ⟨.flat (.line lineParams[bitsAt sel 0 4]), by
      simp only [paramOf, htable, List.getElem?_eq_getElem hlength, Option.map_some]⟩
  · exact (paramOf_fabric htable hnumber).imp' _ fun _ => id
  · have hlength : bitsAt sel 0 4 < pressParams.length := hnumber
    exact ⟨.flat (.press pressParams[bitsAt sel 0 4]), by
      simp only [paramOf, htable, List.getElem?_eq_getElem hlength, Option.map_some]⟩
  · exact (paramOf_pass htable hnumber).imp' _ fun _ => id

/-! ## CONFIG with the S flag clear -/

theorem bodyConfigRead_of_none (hparam : paramOf sel = none) :
    bodyConfigRead sel arg s = (answer0 .notFound, s) := by
  simp only [bodyConfigRead, hparam]

theorem bodyConfigRead_of_flat {q : FlatParam} (hparam : paramOf sel = some (.flat q)) :
    bodyConfigRead sel arg s = (answer .ok [(16, s.flatValue q)], s) := by
  simp only [bodyConfigRead, hparam, valueAnswer]

theorem bodyConfigRead_of_beyond {q : RowParam} (hparam : paramOf sel = some (.row q))
    (hrow : q.rows ≤ bitsAt arg 16 8) : bodyConfigRead sel arg s = (answer0 .notFound, s) := by
  simp only [bodyConfigRead, hparam, if_pos hrow]

theorem bodyConfigRead_of_row {q : RowParam} (hparam : paramOf sel = some (.row q))
    (hrow : bitsAt arg 16 8 < q.rows) :
    bodyConfigRead sel arg s = (answer .ok [(16, s.rowValue q (bitsAt arg 16 8))], s) := by
  simp only [bodyConfigRead, hparam, if_neg (Nat.not_le.mpr hrow), valueAnswer]

theorem fabricOf_val (i : FabricIx) : fabricOf i.val = i := Fin.ofNat_val_eq_self i

theorem classOf_classCode (c : PassClass) : classOf (classCode c) = c := by cases c <;> rfl

theorem classCode_lt (c : PassClass) : classCode c < 2 := by cases c <;> decide

/-! ## CONFIG with the S flag set -/

theorem bodyConfigWrite_of_none (hparam : paramOf sel = none) :
    bodyConfigWrite sel arg s = (answer0 .notFound, s) := by
  simp only [bodyConfigWrite, hparam]

theorem bodyConfigWrite_of_locked {q : Param} (hparam : paramOf sel = some q)
    (hclosed : s.commissioningOpen = false) : bodyConfigWrite sel arg s = (answer0 .locked, s) := by
  simp only [bodyConfigWrite, hparam, if_pos hclosed]

section
variable (hopen : s.commissioningOpen = true)
include hopen

theorem bodyConfigWrite_of_flat {q : FlatParam} (hparam : paramOf sel = some (.flat q))
    (hwrite : s.writeFlat q (bitsAt arg 0 16) = some (x, t)) :
    bodyConfigWrite sel arg s =
      (answer (if x = bitsAt arg 0 16 then .ok else .clamped) [(16, x)], t) := by
  simp only [bodyConfigWrite, hparam, hopen, Bool.true_eq_false, if_false, hwrite, valueAnswer,
    writeResult]

theorem bodyConfigWrite_of_inUse {q : FlatParam} (hparam : paramOf sel = some (.flat q))
    (hwrite : s.writeFlat q (bitsAt arg 0 16) = none) :
    bodyConfigWrite sel arg s = (answer0 .inUse, s) := by
  simp only [bodyConfigWrite, hparam, hopen, Bool.true_eq_false, if_false, hwrite]

theorem bodyConfigWrite_of_single {q : RowParam} (hparam : paramOf sel = some (.row q))
    (hext : (s.ports.get .order).ext = none) :
    bodyConfigWrite sel arg s = rowWrite q (bitsAt arg 16 8) (bitsAt arg 0 16) s := by
  have hread : s.ext .order = none := hext
  simp only [bodyConfigWrite, hparam, hopen, Bool.true_eq_false, if_false, hread]

theorem bodyConfigWrite_of_wide {q : RowParam} {mask : Word} (hparam : paramOf sel = some (.row q))
    (hext : (s.ports.get .order).ext = some mask) :
    bodyConfigWrite sel arg s = wideWrite q mask (bitsAt arg 0 16) s := by
  have hread : s.ext .order = some mask := hext
  simp only [bodyConfigWrite, hparam, hopen, Bool.true_eq_false, if_false, hread]

theorem bodyConfigWrite_of_beyond {q : RowParam} (hparam : paramOf sel = some (.row q))
    (hext : (s.ports.get .order).ext = none) (hrow : q.rows ≤ bitsAt arg 16 8) :
    bodyConfigWrite sel arg s = (answer0 .notFound, s) := by
  rw [bodyConfigWrite_of_single hopen hparam hext, rowWrite, if_pos hrow]

/-- A row mask that names no row, or a row that the table does not have. -/
theorem bodyConfigWrite_of_no_mask {q : RowParam} {mask : Word} (hparam : paramOf sel = some (.row q))
    (hext : (s.ports.get .order).ext = some mask) (hmask : mask = 0 ∨ 2 ^ q.rows ≤ mask.toNat) :
    bodyConfigWrite sel arg s = (answer0 .notFound, s) := by
  rw [bodyConfigWrite_of_wide hopen hparam hext]
  rcases hmask with rfl | hmask
  · have hnone : maskRows 0 q.rows = [] := by simp [maskRows]
    have hzero : ¬ 2 ^ q.rows ≤ (0 : Word).toNat := Nat.not_le.mpr (Nat.two_pow_pos q.rows)
    simp only [wideWrite, if_neg hzero, hnone]
  · simp only [wideWrite, if_pos hmask]

end

end

/-- Settles O51: the table's rows one by one, and the checks of R174 in their order. -/
theorem configReadsAndRefusals : Obligations.ConfigReadsAndRefusals := by
  intro sel arg s hrecv r table number named reads writes
  have read {x : Answer} (hbody : bodyConfigRead sel arg s = (x, s)) : reads x :=
    takeFrame_answers hrecv rfl hbody
  have write {x : Answer} (hbody : bodyConfigWrite sel arg s = (x, s)) : writes x :=
    takeFrame_answers hrecv rfl hbody
  refine ⟨fun e he => lineTable_faithful he, fun i e he => fabricTable_faithful he,
    fun e he => pressTable_faithful he, fun c e he => passTable_faithful he,
    fun hnot => ⟨read (bodyConfigRead_of_none (paramOf_eq_none hnot)),
      write (bodyConfigWrite_of_none (paramOf_eq_none hnot))⟩,
    fun hnamed hclosed => ?locked, fun htable hnumber hrow => ?fabricRead,
    fun htable hnumber hrow => ?passRead, fun htable hnumber hrow hopen hext => ?fabricWrite,
    fun htable hnumber hrow hopen hext => ?passWrite, fun m htable hnumber hopen hext hmask => ?fabricWide,
    fun m htable hnumber hopen hext hmask => ?passWide,
    fun k hparam => read (bodyConfigRead_of_flat hparam),
    fun k hparam => read (bodyConfigRead_of_flat hparam), fun k i hparam hrow => ?fabricValue,
    fun k c hparam hrow => ?passValue⟩
  case locked =>
    obtain ⟨q, hparam⟩ := paramOf_named hnamed
    exact write (bodyConfigWrite_of_locked hparam hclosed)
  case fabricRead =>
    obtain ⟨k, hparam⟩ := paramOf_fabric htable hnumber
    exact read (bodyConfigRead_of_beyond hparam hrow)
  case passRead =>
    obtain ⟨k, hparam⟩ := paramOf_pass htable hnumber
    exact read (bodyConfigRead_of_beyond hparam hrow)
  case fabricWrite =>
    obtain ⟨k, hparam⟩ := paramOf_fabric htable hnumber
    exact write (bodyConfigWrite_of_beyond hopen hparam hext hrow)
  case passWrite =>
    obtain ⟨k, hparam⟩ := paramOf_pass htable hnumber
    exact write (bodyConfigWrite_of_beyond hopen hparam hext hrow)
  case fabricWide =>
    obtain ⟨k, hparam⟩ := paramOf_fabric htable hnumber
    exact write (bodyConfigWrite_of_no_mask hopen hparam hext hmask)
  case passWide =>
    obtain ⟨k, hparam⟩ := paramOf_pass htable hnumber
    exact write (bodyConfigWrite_of_no_mask hopen hparam hext hmask)
  case fabricValue =>
    have hvalue : s.rowValue (.fabric k) (bitsAt arg 16 8) = (s.fabric.get i).value k := by
      rw [show bitsAt arg 16 8 = i.val from hrow, State.rowValue, fabricOf_val]
    exact hvalue ▸ read (bodyConfigRead_of_row hparam (hrow.trans_lt i.isLt))
  case passValue =>
    have hvalue : s.rowValue (.pass k) (bitsAt arg 16 8) = (s.pass.get c).value k := by
      rw [show bitsAt arg 16 8 = classCode c from hrow, State.rowValue, classOf_classCode]
    exact hvalue ▸ read (bodyConfigRead_of_row hparam (hrow.trans_lt (classCode_lt c)))

/-! ## The tables without rows (R40, R127) -/

section
variable {s : State} {n : Nat}

theorem State.writeFlat_line {k : LineParam} (hk : k ≠ .platenCount) :
    s.writeFlat (.line k) n =
      some (clamp k.range.1 k.range.2 n,
        { s with params := s.params.put k (clamp k.range.1 k.range.2 n) }) := by
  cases k with
  | platenCount => exact absurd rfl hk
  | _ => rfl

theorem State.writeFlat_press {k : PressParam} (hk : k ≠ .headsPresent) :
    s.writeFlat (.press k) n =
      some (clamp k.range.1 k.range.2 n,
        { s with press := s.press.put k (clamp k.range.1 k.range.2 n) }) := by
  cases k with
  | headsPresent => exact absurd rfl hk
  | _ => rfl

theorem State.platenInUse_iff {i : PlatenIx} :
    s.platenInUse n i = true ↔ n ≤ i.val ∧ i.val < s.params.platenCount ∧
      (s.ticket i ≠ none ∨ (s.location i ≠ .loadZone ∧ s.location i ≠ .transit)) := by
  simp [State.platenInUse, and_assoc, Option.isSome_iff_ne_none]

theorem State.writeFlat_platenCount_of_held
    (hheld : ∃ i : PlatenIx, clamp 1 48 n ≤ i.val ∧ i.val < s.params.platenCount ∧
      (s.ticket i ≠ none ∨ (s.location i ≠ .loadZone ∧ s.location i ≠ .transit))) :
    s.writeFlat (.line .platenCount) n = none := by
  obtain ⟨i, hi⟩ := hheld
  have hany : (List.finRange 48).any (s.platenInUse (clamp 1 48 n)) = true :=
    List.any_eq_true.mpr ⟨i, List.mem_finRange i, State.platenInUse_iff.mpr hi⟩
  exact congrArg (Option.map _) (if_pos hany)

theorem State.writeFlat_platenCount_of_free
    (hfree : ¬ ∃ i : PlatenIx, clamp 1 48 n ≤ i.val ∧ i.val < s.params.platenCount ∧
      (s.ticket i ≠ none ∨ (s.location i ≠ .loadZone ∧ s.location i ≠ .transit))) :
    s.writeFlat (.line .platenCount) n =
      some (clamp 1 48 n,
        { s with
          params := { s.params with platenCount := clamp 1 48 n }
          platens := Table.tabulate fun i =>
            if clamp 1 48 n ≤ i.val then { s.platens.get i with location := .transit, misroutes := 0 }
            else s.platens.get i }) := by
  have hany : ¬ (List.finRange 48).any (s.platenInUse (clamp 1 48 n)) = true := fun hany =>
    let ⟨i, _, hi⟩ := List.any_eq_true.mp hany
    hfree ⟨i, State.platenInUse_iff.mp hi⟩
  exact congrArg (Option.map _) (if_neg hany)

theorem State.present_h1 : s.present .h1 = true ↔ s.press.headsPresent = 2 := beq_iff_eq

theorem State.writeFlat_headsPresent :
    s.writeFlat (.press .headsPresent) n =
      (s.writeHeadsPresent (clamp 1 2 n)).map fun t => (clamp 1 2 n, t) := rfl

theorem clamp_heads_of_low (hn : n ≤ 1) : clamp 1 2 n = 1 := by
  unfold clamp
  split
  · rfl
  · rw [if_neg (by omega)]
    omega

theorem clamp_heads_of_high (hn : 2 ≤ n) : clamp 1 2 n = 2 := by
  unfold clamp
  rw [if_neg (by omega)]
  split <;> omega

theorem State.writeHeadsPresent_of_busy (hcount : s.press.headsPresent = 2)
    (hfree : s.heads.h1.state ≠ .free) (hparked : s.heads.h1.state ≠ .parked)
    (hisolated : s.heads.h1.state ≠ .isolated) : s.writeHeadsPresent 1 = none :=
  (if_pos rfl).trans (if_pos ⟨State.present_h1.mpr hcount, hfree, hparked, hisolated⟩)

theorem State.writeHeadsPresent_of_idle (hidle : s.press.headsPresent ≠ 2 ∨ s.heads.h1.state = .free ∨
    s.heads.h1.state = .parked ∨ s.heads.h1.state = .isolated) :
    s.writeHeadsPresent 1 = some s.removeHead := by
  refine (if_pos rfl).trans (if_neg fun ⟨hcount, hfree, hparked, hisolated⟩ => ?_)
  rcases hidle with hidle | hidle | hidle | hidle
  · exact hidle (State.present_h1.mp hcount)
  · exact hfree hidle
  · exact hparked hidle
  · exact hisolated hidle

theorem State.writeHeadsPresent_of_present (hcount : s.press.headsPresent = 2) :
    s.writeHeadsPresent 2 = some s :=
  (if_neg (by decide)).trans (if_pos (State.present_h1.mpr hcount))

theorem State.writeHeadsPresent_of_absent (hcount : s.press.headsPresent ≠ 2) :
    s.writeHeadsPresent 2 = some s.addHead :=
  (if_neg (by decide)).trans (if_neg (mt State.present_h1.mp hcount))

end

/-- Settles O52: each parameter by its owner's rule, on the clamped value. -/
theorem configWriteWithoutRows : Obligations.ConfigWriteWithoutRows := by
  intro sel arg s hrecv hopen n put inUse
  have puts {q : FlatParam} {u : State} {x : Nat} (hparam : paramOf sel = some (.flat q))
      (hwrite : s.writeFlat q n = some (x, u)) : put u x :=
    takeFrame_answers hrecv rfl (bodyConfigWrite_of_flat hopen hparam hwrite)
  have refuses {q : FlatParam} (hparam : paramOf sel = some (.flat q))
      (hwrite : s.writeFlat q n = none) : inUse :=
    takeFrame_answers hrecv rfl (bodyConfigWrite_of_inUse hopen hparam hwrite)
  refine ⟨fun k x _ hx j => ?line, fun k x _ hx j => ?press,
    fun k hparam hk => puts hparam (State.writeFlat_line hk),
    fun k hparam hk => puts hparam (State.writeFlat_press hk), fun hparam => ?platens,
    fun hparam => ?heads⟩
  case line =>
    split
    · next hj => exact hj ▸ Params.value_put_self s.params k hx
    · next hj => exact Params.value_put_ne s.params x hj
  case press =>
    split
    · next hj => exact hj ▸ PressParams.value_put_self s.press k hx
    · next hj => exact PressParams.value_put_ne s.press x hj
  case platens =>
    intro x held
    exact ⟨fun hheld => refuses hparam (State.writeFlat_platenCount_of_held hheld),
      fun hfree => ⟨_, puts hparam (State.writeFlat_platenCount_of_free hfree),
        fun i => Table.get_tabulate _ i⟩⟩
  case heads =>
    intro d
    have writes {x : Nat} {u : Option State} (hx : clamp 1 2 n = x) (hu : s.writeHeadsPresent x = u) :
        s.writeFlat (.press .headsPresent) n = u.map fun t => (x, t) := by
      rw [State.writeFlat_headsPresent, hx, hu]
    refine ⟨fun hn hcount hfree hparked hisolated => refuses hparam (writes (clamp_heads_of_low hn)
        (State.writeHeadsPresent_of_busy hcount hfree hparked hisolated)),
      fun hn hidle => puts hparam (writes (clamp_heads_of_low hn)
        (State.writeHeadsPresent_of_idle hidle)),
      fun hn hcount => puts hparam (writes (clamp_heads_of_high hn)
        (State.writeHeadsPresent_of_present hcount)),
      fun hn hcount => puts hparam (writes (clamp_heads_of_high hn)
        (State.writeHeadsPresent_of_absent hcount))⟩

end Sys2Proof.Machine
end

section
/-! PROOF. CONFIG writes to the fabric class and the pass class tables, single and wide (R97, R149,
R150, R174): each named row by its own rule, and what the re-clamp leaves of each head. -/

namespace Sys2Proof.Machine

open Sys2Proof

/-! ## A parameter's value is what was put into it -/

theorem FabricRow.value_put_self (v : FabricRow) (k : FabricParam) (x : Nat) :
    (v.put k x).value k = x := by cases k <;> rfl

theorem FabricRow.value_put_ne (v : FabricRow) {k j : FabricParam} (x : Nat) (hj : j ≠ k) :
    (v.put k x).value j = v.value j := by
  cases k <;> cases j <;> first | rfl | exact absurd rfl hj

theorem PassRow.value_put_self (v : PassRow) (k : PassParam) {x : Nat} (hx : x ≤ k.range.2) :
    (v.put k x).value k = x := by
  cases k with
  | multiStep =>
    have hcode : x = 0 ∨ x = 1 := Nat.le_one_iff_eq_zero_or_eq_one.mp hx
    rcases hcode with rfl | rfl <;> rfl
  | _ => rfl

theorem PassRow.value_put_ne (v : PassRow) {k j : PassParam} (x : Nat) (hj : j ≠ k) :
    (v.put k x).value j = v.value j := by
  cases k <;> cases j <;> first | rfl | exact absurd rfl hj

section
variable {sel : Selector} {arg : Arg} {s : State} {n rows i low : Nat}

/-! ## The rows that a write names (R174, steps 4 and 5) -/

/-- The rows of a write, single or wide, in ascending order. -/
def namedRows (s : State) (arg : Arg) (rows : Nat) : List Nat :=
  match (s.ports.get .order).ext with
  | none => [bitsAt arg 16 8]
  | some mask => maskRows mask rows

/-- The write names row `i` of a table of `rows` rows. -/
def RowNamed (s : State) (arg : Arg) (rows i : Nat) : Prop :=
  i < rows ∧ match (s.ports.get .order).ext with
    | none => (arg.extractLsb' 16 8).toNat = i
    | some mask => mask.toNat < 2 ^ rows ∧ mask.getLsbD i = true

theorem rowNamed_of_single (hext : (s.ports.get .order).ext = none) :
    RowNamed s arg rows i ↔ i < rows ∧ bitsAt arg 16 8 = i := by
  simp only [RowNamed, hext]
  rfl

theorem rowNamed_of_wide {mask : Word} (hext : (s.ports.get .order).ext = some mask) :
    RowNamed s arg rows i ↔ i < rows ∧ mask.toNat < 2 ^ rows ∧ mask.getLsbD i = true := by
  simp only [RowNamed, hext]

theorem mem_namedRows_iff (hlow : RowNamed s arg rows low) :
    i ∈ namedRows s arg rows ↔ RowNamed s arg rows i := by
  cases hext : (s.ports.get .order).ext with
  | none =>
    obtain ⟨hlt, hrow⟩ := (rowNamed_of_single hext).mp hlow
    rw [rowNamed_of_single hext]
    simp only [namedRows, hext, List.mem_singleton]
    omega
  | some mask =>
    obtain ⟨-, hmask, -⟩ := (rowNamed_of_wide hext).mp hlow
    rw [rowNamed_of_wide hext]
    simp [namedRows, hext, maskRows, hmask]

theorem namedRows_sorted : (namedRows s arg rows).Pairwise (· < ·) := by
  unfold namedRows
  split
  · exact List.pairwise_singleton ..
  · exact List.Pairwise.filter _ List.pairwise_lt_range

/-- The lowest named row comes first. -/
theorem namedRows_eq_cons (hlow : RowNamed s arg rows low)
    (hleast : ∀ j, RowNamed s arg rows j → low ≤ j) : ∃ rest, namedRows s arg rows = low :: rest := by
  have hmem := (mem_namedRows_iff hlow).mpr hlow
  have hsorted := namedRows_sorted (s := s) (arg := arg) (rows := rows)
  cases hrows : namedRows s arg rows with
  | nil => rw [hrows] at hmem; exact absurd hmem (List.not_mem_nil)
  | cons r rest =>
    have hr : low ≤ r := hleast r ((mem_namedRows_iff hlow).mp (hrows ▸ List.mem_cons_self))
    rw [hrows] at hmem hsorted
    rcases List.mem_cons.mp hmem with rfl | hin
    · exact ⟨rest, rfl⟩
    · exact absurd ((List.pairwise_cons.mp hsorted).1 low hin) (Nat.not_lt.mpr hr)

theorem bodyConfigWrite_of_rows {q : RowParam} (hopen : s.commissioningOpen = true)
    (hparam : paramOf sel = some (.row q)) (hlow : RowNamed s arg q.rows low)
    (hleast : ∀ j, RowNamed s arg q.rows j → low ≤ j) (hn : bitsAt arg 0 16 = n) :
    bodyConfigWrite sel arg s =
      (answer (if s.anyClamped q n (namedRows s arg q.rows) then .clamped else .ok)
          [(16, s.rowAdopted q low n)],
        s.writeRows q n (namedRows s arg q.rows)) := by
  subst hn
  obtain ⟨rest, hrows⟩ := namedRows_eq_cons hlow hleast
  cases hext : (s.ports.get .order).ext with
  | none =>
    obtain ⟨hlt, hrow⟩ := (rowNamed_of_single hext).mp hlow
    have hsingle : namedRows s arg q.rows = [low] := by simp only [namedRows, hext, hrow]
    rw [bodyConfigWrite_of_single hopen hparam hext, rowWrite, if_neg (by omega), hsingle, hrow]
    have hclamped : (if s.anyClamped q (bitsAt arg 0 16) [low] then Result.clamped else .ok) =
        writeResult (bitsAt arg 0 16) (s.rowAdopted q low (bitsAt arg 0 16)) := by
      simp [State.anyClamped, writeResult]
    rw [hclamped]
    rfl
  | some mask =>
    obtain ⟨-, hmask, -⟩ := (rowNamed_of_wide hext).mp hlow
    have hmasked : maskRows mask q.rows = low :: rest := by rw [← hrows, namedRows, hext]
    rw [bodyConfigWrite_of_wide hopen hparam hext, wideWrite, if_neg (by omega), hmasked, hrows]
    rfl

theorem anyClamped_iff {q : RowParam} {rs : List Nat} :
    s.anyClamped q n rs = true ↔ ∃ r ∈ rs, s.rowAdopted q r n ≠ n := by
  simp [State.anyClamped]

/-! ## The fabric class table -/

theorem fabricOf_eq_iff {r : Nat} {i : FabricIx} (hr : r < 8) : fabricOf r = i ↔ r = i.val := by
  rw [Fin.ext_iff, fabricOf, Fin.val_ofNat, Nat.mod_eq_of_lt hr]

/-- The rows written change the fabric table alone, each by its own rule. -/
theorem State.writeRows_fabric {k : FabricParam} {rs : List Nat} (hlt : ∀ r ∈ rs, r < 8)
    (hsorted : rs.Pairwise (· < ·)) :
    ∃ t : Table FabricRow 8, s.writeRows (.fabric k) n rs = { s with fabric := t } ∧
      ∀ i : FabricIx, t.get i =
        if i.val ∈ rs then (s.fabric.get i).put k ((s.fabric.get i).adopted k n)
        else s.fabric.get i := by
  induction rs generalizing s with
  | nil => exact ⟨s.fabric, rfl, fun i => (if_neg List.not_mem_nil).symm⟩
  | cons r rest ih =>
    obtain ⟨habove, hrest⟩ := List.pairwise_cons.mp hsorted
    obtain ⟨t, ht, hget⟩ := ih (s := s.writeRow (.fabric k) n r)
      (fun x hx => hlt x (List.mem_cons_of_mem _ hx)) hrest
    refine ⟨t, ht, fun i => ?_⟩
    have hr := hlt r List.mem_cons_self
    rw [hget i]
    by_cases hi : i = fabricOf r
    · have hir : i.val = r := ((fabricOf_eq_iff hr).mp hi.symm).symm
      have hnot : i.val ∉ rest := fun hin => absurd (habove _ hin) (hir ▸ Nat.lt_irrefl _)
      rw [if_neg hnot, if_pos (hir ▸ List.mem_cons_self), hi]
      exact Table.get_modify_self ..
    · have hir : i.val ≠ r := fun hir => hi ((fabricOf_eq_iff hr).mpr hir.symm).symm
      have hkept : (s.writeRow (.fabric k) n r).fabric.get i = s.fabric.get i :=
        Table.get_modify_ne _ _ hi
      simp only [hkept, List.mem_cons, hir, false_or]

end

/-! ## The pass class table: what a write leaves of a head (R150) -/

/-- What the re-clamp of R150 may change of a head: its setpoint, its record and its notice. -/
structure HeadView where
  thermal : Thermal
  head    : Head
  notice  : Notice

/-- What stands of a head in a state. -/
def State.headView (s : State) (h : HeadId) : HeadView :=
  ⟨s.thermal.get h, s.heads.get h, s.notice (.assignment h)⟩

/-- A head whose setpoint has moved to `sp`: a SETPOINT posted (R134, R150). -/
def HeadView.stepped (w : HeadView) (h : HeadId) (sp : Nat) : HeadView :=
  ⟨{ w.thermal with setpoint := sp },
    { w.head with mailbox := mergePost w.head.mailbox (.setpoint sp) },
    ⟨true, packDetail [(3, assignmentCode (mergePost w.head.mailbox (.setpoint sp))), (5, 0),
      (1, headCode h)]⟩⟩

/-- The setpoint held to a column's window. -/
def PassRow.hold (row : PassRow) (sp : Nat) : Nat := clamp row.defSetpoint row.ceiling sp

/-- The write of a parameter changes the setpoint window of a column (R150). -/
abbrev PassRow.windowChanges (row : PassRow) (k : PassParam) (x : Nat) : Prop :=
  (k = .defSetpoint ∨ k = .ceiling) ∧ x ≠ row.value k

/-- What the write of a parameter in a head's own column leaves of the head. -/
def HeadView.afterWrite (w : HeadView) (h : HeadId) (present : Bool) (row : PassRow) (k : PassParam)
    (n : Nat) : HeadView :=
  let new := row.put k (row.adopted k n)
  if row.windowChanges k (row.adopted k n) ∧ present = true ∧
      new.hold w.thermal.setpoint ≠ w.thermal.setpoint then
    w.stepped h (new.hold w.thermal.setpoint)
  else w

/-- What a CONFIG write to the pass class table leaves of the rest of the part. -/
structure PassKept (s t : State) : Prop where
  ports    : ∀ q, q ≠ .press → t.ports.get q = s.ports.get q
  notices  : ∀ j : Fin 8, 1 < j →
    (t.ports.get .press).notices.get j = (s.ports.get .press).notices.get j
  params   : t.params = s.params
  fabric   : t.fabric = s.fabric
  press    : t.press = s.press
  lines    : t.lines = s.lines
  platens  : t.platens = s.platens
  artworks : t.artworks = s.artworks
  lists    : t.lists = s.lists

theorem PassKept.refl (s : State) : PassKept s s :=
  ⟨fun _ _ => rfl, fun _ _ => rfl, rfl, rfl, rfl, rfl, rfl, rfl, rfl⟩

theorem PassKept.trans {s t u : State} (h1 : PassKept s t) (h2 : PassKept t u) : PassKept s u :=
  ⟨fun q hq => (h2.ports q hq).trans (h1.ports q hq), fun j hj => (h2.notices j hj).trans (h1.notices j hj),
    h2.params.trans h1.params, h2.fabric.trans h1.fabric, h2.press.trans h1.press,
    h2.lines.trans h1.lines, h2.platens.trans h1.platens, h2.artworks.trans h1.artworks,
    h2.lists.trans h1.lists⟩

section
variable {s u : State} {c : PassClass} {h x : HeadId} {k : PassParam} {n sp : Nat}

theorem mergePost_setpoint (m : Option Assignment) (sp : Nat) :
    ∃ a, mergePost m (.setpoint sp) = some a := by
  rcases m with - | a
  · exact ⟨_, rfl⟩
  · cases a <;> exact ⟨_, rfl⟩

/-- A head's setpoint moved and SETPOINT posted (R150). -/
def State.stepHead (s : State) (h : HeadId) (sp : Nat) : State :=
  (s.modifyThermal h fun t => { t with setpoint := sp }).post h (.setpoint sp)

theorem State.stepHead_eq (s : State) (h : HeadId) (sp : Nat) :
    s.stepHead h sp =
      ({ s with
        thermal := s.thermal.modify h fun t => { t with setpoint := sp }
        heads := s.heads.modify h fun d =>
          { d with mailbox := mergePost (s.heads.get h).mailbox (.setpoint sp) } }).setNotice (.assignment h)
        ⟨true, packDetail [(3, assignmentCode (mergePost (s.heads.get h).mailbox (.setpoint sp))), (5, 0),
          (1, headCode h)]⟩ := by
  obtain ⟨m, hm⟩ := mergePost_setpoint (s.heads.get h).mailbox sp
  have hslot : ((s.modifyThermal h fun t => { t with setpoint := sp }).heads.get h).mailbox =
      (s.heads.get h).mailbox := rfl
  rw [State.stepHead, State.post, hslot, hm]
  rfl

theorem State.notice_setNotice_self (s : State) (kind : NoticeKind) (w : Notice) :
    (s.setNotice kind w).notice kind = w := by
  simp [State.notice, State.setNotice]

/-- The two ASSIGNMENT kinds are different entries of the press port. -/
theorem State.notice_setNotice_assignment_ne (s : State) (w : Notice) (hx : x ≠ h) :
    (s.setNotice (.assignment h) w).notice (.assignment x) = s.notice (.assignment x) := by
  have hindex : (NoticeKind.assignment x).index ≠ (NoticeKind.assignment h).index := by
    cases h <;> cases x <;> first | decide | exact fun _ => hx rfl
  exact Table.get_set_ne _ _ hindex

theorem State.stepHead_view_self : (s.stepHead h sp).headView h = (s.headView h).stepped h sp := by
  rw [State.stepHead_eq, State.headView, State.notice_setNotice_self]
  simp only [State.setNotice_thermal, State.setNotice_heads, PerHead.get_modify_self]
  rfl

theorem State.stepHead_view_ne (hx : x ≠ h) : (s.stepHead h sp).headView x = s.headView x := by
  rw [State.stepHead_eq, State.headView, State.notice_setNotice_assignment_ne _ _ hx]
  simp only [State.setNotice_thermal, State.setNotice_heads, PerHead.get_modify_ne _ _ hx]
  rfl

theorem State.stepHead_kept : PassKept s (s.stepHead h sp) := by
  rw [State.stepHead_eq]
  refine ⟨fun q hq => ?_, fun j hj => ?_, rfl, rfl, rfl, rfl, rfl, rfl, rfl⟩
  · exact PerPort.get_modify_ne _ _ hq
  · have hindex : j ≠ (NoticeKind.assignment h).index := by
      cases h <;> rintro rfl <;> exact absurd hj (by decide)
    exact Table.get_set_ne _ _ hindex

theorem State.reclampHead_eq :
    s.reclampHead c h =
      if s.present h = true ∧ (s.heads.get h).cls = c ∧
          (s.pass.get c).hold (s.thermal.get h).setpoint ≠ (s.thermal.get h).setpoint then
        s.stepHead h ((s.pass.get c).hold (s.thermal.get h).setpoint)
      else s := rfl

theorem State.reclampHead_kept : PassKept s (s.reclampHead c h) := by
  rw [State.reclampHead_eq]
  split
  · exact State.stepHead_kept
  · exact .refl s

theorem State.reclampHead_view_ne (hx : x ≠ h) : (s.reclampHead c h).headView x = s.headView x := by
  rw [State.reclampHead_eq]
  split
  · exact State.stepHead_view_ne hx
  · rfl

/-- The two re-clamps of a write: each head sees its own. -/
theorem State.reclampHeads_view :
    ((s.reclampHead c .h0).reclampHead c .h1).headView h =
      if s.present h = true ∧ (s.heads.get h).cls = c ∧
          (s.pass.get c).hold (s.thermal.get h).setpoint ≠ (s.thermal.get h).setpoint then
        (s.headView h).stepped h ((s.pass.get c).hold (s.thermal.get h).setpoint)
      else s.headView h := by
  have hself (u : State) : (u.reclampHead c h).headView h =
      if u.present h = true ∧ (u.heads.get h).cls = c ∧
          (u.pass.get c).hold (u.thermal.get h).setpoint ≠ (u.thermal.get h).setpoint then
        (u.headView h).stepped h ((u.pass.get c).hold (u.thermal.get h).setpoint)
      else u.headView h := by
    rw [State.reclampHead_eq]
    split
    · exact State.stepHead_view_self
    · rfl
  cases h with
  | h0 => rw [State.reclampHead_view_ne (x := .h0) (h := .h1) nofun, hself]
  | h1 =>
    obtain ⟨⟨-, hpass, -, -⟩, -⟩ := s.reclampHead_fields c .h0
    have hview := State.reclampHead_view_ne (s := s) (c := c) (x := .h1) (h := .h0) nofun
    have hthermal : (s.reclampHead c .h0).thermal.get .h1 = s.thermal.get .h1 :=
      congrArg HeadView.thermal hview
    have hhead : (s.reclampHead c .h0).heads.get .h1 = s.heads.get .h1 := congrArg HeadView.head hview
    rw [hself, State.reclampHead_present, hpass, hthermal, hhead, hview]

theorem State.writePass_kept {y : Nat} : PassKept s (s.writePass c k y) := by
  have hput : PassKept s { s with pass := s.pass.modify c fun v => v.put k y } :=
    ⟨fun _ _ => rfl, fun _ _ => rfl, rfl, rfl, rfl, rfl, rfl, rfl, rfl⟩
  unfold State.writePass
  dsimp only
  split
  · exact (hput.trans State.reclampHead_kept).trans State.reclampHead_kept
  · exact hput

theorem State.writePass_pass {y : Nat} :
    (s.writePass c k y).pass = s.pass.modify c fun v => v.put k y := by
  unfold State.writePass
  dsimp only
  split
  · obtain ⟨⟨-, hpass0, -, -⟩, -⟩ :=
      State.reclampHead_fields { s with pass := s.pass.modify c fun v => v.put k y } c .h0
    obtain ⟨⟨-, hpass1, -, -⟩, -⟩ := State.reclampHead_fields
      (State.reclampHead c { s with pass := s.pass.modify c fun v => v.put k y } .h0) c .h1
    exact hpass1.trans hpass0
  · rfl

theorem State.writePass_view_self (hcls : (s.heads.get h).cls = c) :
    (s.writePass c k ((s.pass.get c).adopted k n)).headView h =
      (s.headView h).afterWrite h (s.present h) (s.pass.get c) k n := by
  unfold State.writePass HeadView.afterWrite
  dsimp only
  by_cases hwindow : (s.pass.get c).windowChanges k ((s.pass.get c).adopted k n)
  · have hrow : (s.pass.modify c fun v => v.put k ((s.pass.get c).adopted k n)).get c =
        (s.pass.get c).put k ((s.pass.get c).adopted k n) := PerClass.get_modify_self ..
    have hpresent : State.present
        { s with pass := s.pass.modify c fun v => v.put k ((s.pass.get c).adopted k n) } h = s.present h := by
      cases h <;> rfl
    rw [if_pos hwindow, State.reclampHeads_view]
    simp only [hrow, hpresent, hcls, true_and]
    exact (if_congr (and_iff_right hwindow) rfl rfl).symm
  · rw [if_neg hwindow, if_neg fun hdue => hwindow hdue.1]
    rfl

theorem State.writePass_view_ne {y : Nat} (hcls : (s.heads.get h).cls ≠ c) :
    (s.writePass c k y).headView h = s.headView h := by
  unfold State.writePass
  dsimp only
  split
  · rw [State.reclampHeads_view, if_neg fun hdue => hcls hdue.2.1]
    rfl
  · rfl

theorem State.present_of_press {t : State} (hpress : t.press = s.press) : t.present h = s.present h := by
  cases h with
  | h0 => rfl
  | h1 => rw [State.present, State.present, hpress]

theorem classOf_eq_iff {r : Nat} (hr : r < 2) : classOf r = c ↔ r = classCode c := by
  match r, hr with
  | 0, _ => cases c <;> decide
  | 1, _ => cases c <;> decide

/-- What the rows written leave of the columns and of the heads, each by its own column. -/
structure PassWritten (k : PassParam) (n : Nat) (rs : List Nat) (s t : State) : Prop where
  kept : PassKept s t
  rows : ∀ c, t.pass.get c =
    if classCode c ∈ rs then (s.pass.get c).put k ((s.pass.get c).adopted k n) else s.pass.get c
  view : ∀ h, t.headView h =
    if classCode (s.heads.get h).cls ∈ rs then
      (s.headView h).afterWrite h (s.present h) (s.pass.get (s.heads.get h).cls) k n
    else s.headView h

theorem HeadView.afterWrite_cls {w : HeadView} {present : Bool} {row : PassRow} :
    (w.afterWrite h present row k n).head.cls = w.head.cls := by
  unfold HeadView.afterWrite
  dsimp only
  split <;> rfl

theorem State.writeRows_pass {rs : List Nat} (hlt : ∀ r ∈ rs, r < 2) (hsorted : rs.Pairwise (· < ·)) :
    PassWritten k n rs s (s.writeRows (.pass k) n rs) := by
  induction rs generalizing s with
  | nil => exact ⟨.refl s, fun _ => (if_neg List.not_mem_nil).symm, fun _ => (if_neg List.not_mem_nil).symm⟩
  | cons r rest ih =>
    obtain ⟨habove, hrest⟩ := List.pairwise_cons.mp hsorted
    have hr := hlt r List.mem_cons_self
    have hnot : r ∉ rest := fun hin => absurd (habove r hin) (Nat.lt_irrefl r)
    generalize hu : s.writePass (classOf r) k ((s.pass.get (classOf r)).adopted k n) = u
    have hkept : PassKept s u := hu ▸ State.writePass_kept
    have hpass : u.pass = _ := hu ▸ State.writePass_pass
    obtain ⟨hkept', hrows, hview⟩ := ih (s := u) (fun x hx => hlt x (List.mem_cons_of_mem _ hx)) hrest
    have hfirst : s.writeRows (.pass k) n (r :: rest) = u.writeRows (.pass k) n rest :=
      congrArg (State.writeRows · (.pass k) n rest) hu
    rw [hfirst]
    refine ⟨hkept.trans hkept', fun c => ?_, fun h => ?_⟩
    · rw [hrows, hpass]
      by_cases hc : classOf r = c
      · obtain rfl := (classOf_eq_iff hr).mp hc
        rw [if_neg hnot, if_pos List.mem_cons_self, hc, PerClass.get_modify_self]
      · have hcode : classCode c ≠ r := fun he => hc ((classOf_eq_iff hr).mpr he.symm)
        simp only [PerClass.get_modify_ne _ _ (Ne.symm hc), List.mem_cons, hcode, false_or]
    · rw [hview]
      by_cases hc : classOf r = (s.heads.get h).cls
      · have hself : u.headView h =
            (s.headView h).afterWrite h (s.present h) (s.pass.get (s.heads.get h).cls) k n := by
          rw [← hu, hc]
          exact State.writePass_view_self rfl
        have hcls : (u.heads.get h).cls = (s.heads.get h).cls :=
          (congrArg (fun w : HeadView => w.head.cls) hself).trans HeadView.afterWrite_cls
        have hcode : classCode (s.heads.get h).cls = r := ((classOf_eq_iff hr).mp hc).symm
        rw [hcls, hcode, if_neg hnot, if_pos List.mem_cons_self, hself]
      · have hsame : u.headView h = s.headView h := hu ▸ State.writePass_view_ne (Ne.symm hc)
        have hhead : u.heads.get h = s.heads.get h := congrArg HeadView.head hsame
        have hcode : classCode (s.heads.get h).cls ≠ r := fun he =>
          hc ((classOf_eq_iff hr).mpr he.symm)
        rw [hhead, hsame, State.present_of_press hkept.press, hpass,
          PerClass.get_modify_ne _ _ (Ne.symm hc)]
        simp only [List.mem_cons, hcode, false_or]

/-- The head's column is not written, or its window stands, or the setpoint holds: the head stands. -/
theorem HeadView.afterWrite_of_still {w : HeadView} {present : Bool} {row : PassRow}
    (hstill : ¬ row.windowChanges k (row.adopted k n) ∨ present = false ∨
      (row.put k (row.adopted k n)).hold w.thermal.setpoint = w.thermal.setpoint) :
    w.afterWrite h present row k n = w := by
  refine if_neg fun ⟨hwindow, hpresent, hmoved⟩ => ?_
  rcases hstill with hstill | hstill | hstill
  · exact hstill hwindow
  · rw [hstill] at hpresent
    exact absurd hpresent Bool.false_ne_true
  · exact hmoved hstill

theorem PassRow.windowChanges_iff {row : PassRow} {y : Nat} :
    row.windowChanges k y ↔ (k = .defSetpoint ∧ y ≠ row.defSetpoint) ∨ (k = .ceiling ∧ y ≠ row.ceiling) := by
  constructor
  · rintro ⟨rfl | rfl, hy⟩
    · exact .inl ⟨rfl, hy⟩
    · exact .inr ⟨rfl, hy⟩
  · rintro (⟨rfl, hy⟩ | ⟨rfl, hy⟩)
    · exact ⟨.inl rfl, hy⟩
    · exact ⟨.inr rfl, hy⟩

end

section
variable {sel : Selector} {arg : Arg} {s : State} {n low : Nat} {q : RowParam}

/-- The result of a write: CLAMPED where a named row's adopted value differs (R174). -/
theorem result_of_rows (hlow : RowNamed s arg q.rows low) :
    let res : Result := if s.anyClamped q n (namedRows s arg q.rows) then .clamped else .ok
    ((∀ r, RowNamed s arg q.rows r → s.rowAdopted q r n = n) → res = .ok) ∧
      ∀ r, RowNamed s arg q.rows r → s.rowAdopted q r n ≠ n → res = .clamped := by
  refine ⟨fun hall => if_neg fun hany => ?_, fun r hr hne => if_pos ?_⟩
  · obtain ⟨r, hr, hne⟩ := anyClamped_iff.mp hany
    exact hne (hall r ((mem_namedRows_iff hlow).mp hr))
  · exact anyClamped_iff.mpr ⟨r, (mem_namedRows_iff hlow).mpr hr, hne⟩

theorem namedRows_lt (hlow : RowNamed s arg q.rows low) : ∀ r ∈ namedRows s arg q.rows, r < q.rows :=
  fun _ hr => ((mem_namedRows_iff hlow).mp hr).1

end

/-- Settles O53: the named rows are a sorted list, each written by its own rule; a head sees the write to
its own column alone. -/
theorem configWriteToRows : Obligations.ConfigWriteToRows := by
  intro sel arg s hrecv hopen n r named
  refine ⟨fun v k x _ hx j => ?fabricLaw, fun v k x _ hx j => ?passLaw,
    fun k low hparam hlow hleast => ?fabric, fun k low hparam hlow hleast => ?pass⟩
  case fabricLaw =>
    split
    · next hj => exact hj ▸ FabricRow.value_put_self v k x
    · next hj => exact FabricRow.value_put_ne v x hj
  case passLaw =>
    split
    · next hj => exact hj ▸ PassRow.value_put_self v k hx
    · next hj => exact PassRow.value_put_ne v x hj
  case fabric =>
    intro x adopted
    have hrow (i : FabricIx) : s.rowAdopted (.fabric k) i.val n = adopted i := by
      rw [State.rowAdopted, fabricOf_val]
      rfl
    have hleast' (j : Nat) (hj : RowNamed s arg 8 j) : low.val ≤ j := hleast ⟨j, hj.1⟩ hj
    have hbody := bodyConfigWrite_of_rows (q := .fabric k) hopen hparam hlow hleast' (n := n) rfl
    obtain ⟨t, ht, hget⟩ := State.writeRows_fabric (s := s) (k := k) (n := n)
      (namedRows_lt (q := .fabric k) hlow) namedRows_sorted
    obtain ⟨hok, hclamped⟩ := result_of_rows (q := .fabric k) (n := n) hlow
    rw [ht, hrow] at hbody
    refine ⟨t, _, takeFrame_answers hrecv rfl hbody, fun hall => hok fun j hj => ?_,
      fun i hi hne => hclamped i.val hi (by rwa [hrow]), fun i => ⟨fun hi => ?_, fun hi => ?_⟩⟩
    · exact (hrow ⟨j, hj.1⟩).trans (hall ⟨j, hj.1⟩ hj)
    · exact (hget i).trans (if_pos ((mem_namedRows_iff hlow).mpr hi))
    · exact (hget i).trans (if_neg (mt (mem_namedRows_iff hlow).mp hi))
  case pass =>
    intro x adopted window
    have hrow (c : PassClass) : s.rowAdopted (.pass k) (classCode c) n = adopted c := by
      rw [State.rowAdopted, classOf_classCode]
      rfl
    have hnamed (j : Nat) (hj : RowNamed s arg 2 j) : ∃ c, classCode c = j :=
      ⟨classOf j, ((classOf_eq_iff hj.1).mp rfl).symm⟩
    have hleast' (j : Nat) (hj : RowNamed s arg 2 j) : classCode low ≤ j := by
      obtain ⟨c, rfl⟩ := hnamed j hj
      exact hleast c hj
    have hbody := bodyConfigWrite_of_rows (q := .pass k) hopen hparam hlow hleast' (n := n) rfl
    obtain ⟨hkept, hrows, hview⟩ := State.writeRows_pass (s := s) (k := k) (n := n)
      (namedRows_lt (q := .pass k) hlow) namedRows_sorted
    obtain ⟨hok, hclamped⟩ := result_of_rows (q := .pass k) (n := n) hlow
    have hmem (c : PassClass) : classCode c ∈ namedRows s arg 2 ↔ named 2 (classCode c) :=
      mem_namedRows_iff hlow
    rw [hrow] at hbody
    refine ⟨_, _, takeFrame_answers hrecv rfl hbody, fun hall => hok fun j hj => ?_,
      fun c hc hne => hclamped _ hc (by rwa [hrow]), fun c => ⟨fun hc => ?_, fun hc => ?_⟩, fun h => ?_,
      hkept.ports, hkept.notices, hkept.params, hkept.fabric, hkept.press, hkept.lines, hkept.platens,
      hkept.artworks, hkept.lists⟩
    · obtain ⟨c, rfl⟩ := hnamed j hj
      exact (hrow c).trans (hall c hj)
    · exact (hrows c).trans (if_pos ((hmem c).mpr hc))
    · exact (hrows c).trans (if_neg (mt (hmem c).mp hc))
    · intro d sp sp2
      have hwindow : window d.cls ↔ named 2 (classCode d.cls) ∧
          (s.pass.get d.cls).windowChanges k ((s.pass.get d.cls).adopted k n) :=
        and_congr_right fun _ => PassRow.windowChanges_iff.symm
      have hsp2 (hd : named 2 (classCode d.cls)) :
          sp2 = ((s.pass.get d.cls).put k ((s.pass.get d.cls).adopted k n)).hold sp :=
        congrArg (PassRow.hold · sp) ((hrows d.cls).trans (if_pos ((hmem d.cls).mpr hd)))
      refine ⟨fun hchanged hpresent hmoved => ?_, fun hstill => ?_⟩
      · obtain ⟨hd, hwindow⟩ := hwindow.mp hchanged
        rw [hsp2 hd] at hmoved ⊢
        have hstepped := (hview h).trans ((if_pos ((hmem d.cls).mpr hd)).trans
          (if_pos ⟨hwindow, hpresent, hmoved⟩))
        exact ⟨congrArg HeadView.thermal hstepped, congrArg HeadView.head hstepped,
          congrArg HeadView.notice hstepped⟩
      · have hsame : (s.writeRows (.pass k) n (namedRows s arg 2)).headView h = s.headView h := by
          refine (hview h).trans ?_
          by_cases hd : named 2 (classCode d.cls)
          · refine (if_pos ((hmem d.cls).mpr hd)).trans (HeadView.afterWrite_of_still ?_)
            exact hstill.imp (fun hw hc => hw (hwindow.mpr ⟨hd, hc⟩))
              (Or.imp_right fun hsp => (hsp2 hd).symm.trans hsp)
          · exact if_neg (mt (hmem d.cls).mp hd)
        exact ⟨congrArg HeadView.thermal hsame, congrArg HeadView.head hsame,
          congrArg HeadView.notice hsame⟩

end Sys2Proof.Machine
end

section
/-! PROOF. CLOSE_COMMISSIONING (R175), LINE_CLEAR (R180, with R146 and R165 at the heads) and FULL_RESET
(R181). LINE_CLEAR is followed through its stages: the book, the beds and the link, the heads, the
notices. -/

namespace Sys2Proof.Machine

open Sys2Proof

section
variable {s t u : State} {h x : HeadId} {q : Port} {n : Nat}

/-! ## The stripe link cut (R124, R183) -/

/-- Every bed's block cut: the link free, the words already out ended by CUT and IDLE. -/
theorem State.cutAll_of_free (hfree : s.link.sending = none) : s.cutAll = s.stripeOut := by
  simp only [State.cutAll, hfree]

theorem State.cutAll_of_sending {k : Sending} (hsending : s.link.sending = some k) :
    ∃ n, n ≤ 1024 ∧
      s.cutAll = s.stripeOut ++ [.data ((s.storeBlock k.store).take n), .cut, .idle] := by
  refine ⟨min (Config.wordsOut s.stripeOut.length) 1024, Nat.min_le_right .., ?_⟩
  rw [← State.storeBlock_take]
  simp only [State.cutAll, hsending, State.cutWords, List.append_assoc]
  rfl

/-- The beds idle and the link cut. -/
def cutBeds (s : State) : State :=
  { s with beds := ⟨Session.idle, Session.idle⟩, link := ⟨none, s.link.lastServed⟩, stripeOut := s.cutAll }

theorem State.clearBeds_eq (hlink : s.link = u.link) :
    ((s.clearBed .a).clearBed .b).idleFrom u = cutBeds s := by
  cases hsending : s.link.sending with
  | none =>
    have hcut (bed : Bed) (v : State) (hv : v.link = s.link) :
        v.clearBed bed = { v with beds := v.beds.modify bed fun _ => Session.idle } := by
      have hnone : v.link.sending = none := by rw [hv, hsending]
      simp only [State.clearBed, State.cutSend, hnone]
      rfl
    have hafter : s.link = ⟨none, s.link.lastServed⟩ := by rw [← hsending]
    rw [State.idleFrom_of_free (hlink ▸ hsending), hcut .a s rfl]
    refine (hcut .b { s with beds := s.beds.modify .a fun _ => Session.idle } rfl).trans ?_
    rw [cutBeds, State.cutAll_of_free hsending, ← hafter]
    rfl
  | some k =>
    have hbefore : u.link.sending ≠ none := by
      rw [← hlink, hsending]
      exact Option.some_ne_none k
    rw [State.idleFrom_of_sending hbefore]
    have hcutAll : s.cutAll = s.stripeOut ++ s.cutWords k ++ [.idle] := by
      simp only [State.cutAll, hsending]
    rw [cutBeds, hcutAll]
    cases hbed : k.bed <;>
      simp only [State.clearBed, State.cutSend, hsending, hbed, reduceCtorEq, if_true, if_false,
        State.transmit, State.modifyBed, idleAgain] <;> rfl

/-! ## What the clearing of the heads leaves of the rest -/

/-- The heads, the press unit and the ASSIGNMENT notices apart, the part stands. -/
structure HeadsOnly (s t : State) : Prop where
  rest    : t = { s with ports := t.ports, heads := t.heads, thermal := t.thermal }
  ports   : ∀ q, q ≠ .press → t.ports.get q = s.ports.get q
  ext     : (t.ports.get .press).ext = (s.ports.get .press).ext
  reply   : (t.ports.get .press).reply = (s.ports.get .press).reply
  mask    : (t.ports.get .press).mask = (s.ports.get .press).mask
  notices : ∀ j : Fin 8, ¬ j < 2 → (t.ports.get .press).notices.get j = (s.ports.get .press).notices.get j

theorem HeadsOnly.refl (s : State) : HeadsOnly s s :=
  ⟨rfl, fun _ _ => rfl, rfl, rfl, rfl, fun _ _ => rfl⟩

theorem HeadsOnly.trans (h1 : HeadsOnly s t) (h2 : HeadsOnly t u) : HeadsOnly s u :=
  ⟨h2.rest.trans (congrArg (fun v : State =>
      { v with ports := u.ports, heads := u.heads, thermal := u.thermal }) h1.rest),
    fun q hq => (h2.ports q hq).trans (h1.ports q hq), h2.ext.trans h1.ext, h2.reply.trans h1.reply,
    h2.mask.trans h1.mask, fun j hj => (h2.notices j hj).trans (h1.notices j hj)⟩

theorem HeadsOnly.records (s : State) (heads : PerHead Head) (thermal : PerHead Thermal) :
    HeadsOnly s { s with heads := heads, thermal := thermal } :=
  ⟨rfl, fun _ _ => rfl, rfl, rfl, rfl, fun _ _ => rfl⟩

theorem HeadsOnly.setNotice {w : Notice} : HeadsOnly s (s.setNotice (.assignment h) w) := by
  refine ⟨rfl, fun q hq => PerPort.get_modify_ne _ _ hq, rfl, rfl, rfl, fun j hj => ?_⟩
  have hindex : j ≠ (NoticeKind.assignment h).index := by
    cases h <;> rintro rfl <;> exact hj (by decide)
  exact Table.get_set_ne _ _ hindex

theorem HeadsOnly.setMailbox {m : Option Assignment} : HeadsOnly s (s.setMailbox h m) := by
  cases m with
  | none => exact .trans (.records ..) .setNotice
  | some a => exact .trans (.records ..) .setNotice

theorem HeadsOnly.parkIfDue : HeadsOnly s (s.parkIfDue h) := by
  unfold State.parkIfDue
  split
  · exact .trans (.records ..) .setMailbox
  · exact .refl s

theorem HeadsOnly.clearHead : HeadsOnly s (s.clearHead h) := by
  have hlate : HeadsOnly s (s.modifyHead h fun d => { d with late := false }) := .records ..
  have hend (v : State) : HeadsOnly v (v.endCycle h) := .records ..
  unfold State.clearHead
  dsimp only
  split
  case h_4 => exact hlate.trans (hend _)
  all_goals
    rw [State.freeHead_eq_freed]
    exact (((hlate.trans .setMailbox).trans (.records ..)).trans .parkIfDue).trans (hend _)

/-! ## What the clearing leaves of a head (R146, R165) -/

theorem State.post_head_ne {m : Assignment} (hx : x ≠ h) : (s.post h m).heads.get x = s.heads.get x :=
  State.head_setMailbox_ne _ _ hx

theorem State.parkIfDue_thermal_ne (hx : x ≠ h) : (s.parkIfDue h).thermal.get x = s.thermal.get x := by
  unfold State.parkIfDue
  split
  · rw [State.parkNow, State.post_thermal]
    exact PerHead.get_modify_ne _ _ hx
  · rfl

/-- The clearing of one head leaves the other. -/
theorem State.clearHead_ne (hx : x ≠ h) :
    (s.clearHead h).heads.get x = s.heads.get x ∧ (s.clearHead h).thermal.get x = s.thermal.get x := by
  have hlate : (s.modifyHead h fun d => { d with late := false }).heads.get x = s.heads.get x :=
    PerHead.get_modify_ne _ _ hx
  have hend (v : State) : (v.endCycle h).thermal.get x = v.thermal.get x := PerHead.get_modify_ne _ _ hx
  have hfreed (v : State) : (freed v h).heads.get x = v.heads.get x := PerHead.get_modify_ne _ _ hx
  unfold State.clearHead
  dsimp only
  split
  case h_4 => exact ⟨hlate, hend _⟩
  all_goals
    rw [State.freeHead_eq_freed]
    refine ⟨(State.parkIfDue_head_ne hx).trans ((hfreed _).trans ((State.post_head_ne hx).trans hlate)),
      (hend _).trans ((State.parkIfDue_thermal_ne hx).trans ?_)⟩
    exact congrArg (PerHead.get · x) (State.post_thermal _ _ _)

/-- The cycle record of an idle unit (R152). -/
theorem State.endCycle_thermal :
    (s.endCycle h).thermal.get h = ⟨(s.thermal.get h).setpoint, ⟨false, 0, .dry, 0, .none, 1⟩⟩ :=
  PerHead.get_modify_self ..

theorem State.clearHead_of_idle (hassigned : (s.heads.get h).state ≠ .assigned)
    (hclosed : (s.heads.get h).state ≠ .closed) (hreleasing : (s.heads.get h).state ≠ .releasing) :
    (s.clearHead h).heads.get h = { s.heads.get h with late := false } ∧
      (s.clearHead h).thermal.get h =
        ⟨(s.thermal.get h).setpoint, ⟨false, 0, .dry, 0, .none, 1⟩⟩ := by
  have hclear : s.clearHead h = (s.modifyHead h fun d => { d with late := false }).endCycle h := by
    unfold State.clearHead
    dsimp only
    split
    · exact absurd ‹_› hassigned
    · exact absurd ‹_› hclosed
    · exact absurd ‹_› hreleasing
    · rfl
  rw [hclear]
  exact ⟨PerHead.get_modify_self .., State.endCycle_thermal⟩

/-- The slot of a head at work after the RELEASE of a LINE_CLEAR (R133, R146). -/
def slotAfterClear (d : Head) : Option Assignment :=
  match d.mailbox with
  | some (.closeOn _ _ _ _) => none
  | _ => some .release

theorem mergePost_release (d : Head) : mergePost d.mailbox .release = slotAfterClear d := by
  unfold slotAfterClear
  rcases d.mailbox with - | a
  · rfl
  · cases a <;> rfl

/-- A head at work after LINE_CLEAR, before it may park (R146). -/
def leftHead (d : Head) (parkDelay : Nat) : Head :=
  { state := if d.declinePending then .declining else .free
    cls := d.cls
    platen := none
    origin := .cureRush
    outcome := .transit
    declinePending := false
    late := false
    closeOnTaken := false
    timer := if d.declinePending = true ∨ slotAfterClear d = some .release then none
             else some ⟨.park, parkDelay * 1000⟩
    mailbox := slotAfterClear d }

/-- The state in which a head at work has let its platen go (R146). -/
def leftAtClear (s : State) (h : HeadId) : State :=
  freed ((s.modifyHead h fun d => { d with late := false }).post h .release) h

theorem leftAtClear_head : (leftAtClear s h).heads.get h = leftHead (s.heads.get h) s.press.parkDelay := by
  have hpress : ((s.modifyHead h fun d => { d with late := false }).post h .release).press = s.press := by
    obtain ⟨hpress, -⟩ := State.setMailbox_keeps (s.modifyHead h fun d => { d with late := false }) h
      (mergePost ((s.modifyHead h fun d => { d with late := false }).heads.get h).mailbox .release)
    exact hpress
  rw [leftAtClear, freed, State.modifyHead, PerHead.get_modify_self, hpress, State.post,
    State.head_setMailbox_self, State.modifyHead, PerHead.get_modify_self]
  simp only [mergePost_release]
  rfl

theorem leftAtClear_keeps : (leftAtClear s h).thermal = s.thermal ∧ (leftAtClear s h).press = s.press ∧
    (leftAtClear s h).pass = s.pass := by
  obtain ⟨hpress, -, hthermal, hpass, -⟩ :=
    State.setMailbox_keeps (s.modifyHead h fun d => { d with late := false }) h
      (mergePost ((s.modifyHead h fun d => { d with late := false }).heads.get h).mailbox .release)
  exact ⟨hthermal, hpress, hpass⟩

theorem State.clearHead_of_busy (hbusy : (s.heads.get h).state = .assigned ∨
    (s.heads.get h).state = .closed ∨ (s.heads.get h).state = .releasing) :
    s.clearHead h = ((leftAtClear s h).parkIfDue h).endCycle h := by
  have hsame (v : State) : (v.freeHead h).parkIfDue h = (freed v h).parkIfDue h := by
    rw [State.freeHead_eq_freed]
  rcases hbusy with hstate | hstate | hstate <;> simp only [State.clearHead, hstate, hsame] <;> rfl

/-- The head parks within a LINE_CLEAR (R142). -/
def ParksAtClear (d : Head) (parkDelay : Nat) : Prop :=
  d.declinePending = false ∧ slotAfterClear d = none ∧ parkDelay = 0

theorem slotAfterClear_eq_none_or (d : Head) :
    slotAfterClear d = none ∨ slotAfterClear d = some .release := by
  unfold slotAfterClear
  split
  · exact .inl rfl
  · exact .inr rfl

theorem leftHead_due_iff (d : Head) (parkDelay : Nat) :
    ((leftHead d parkDelay).state = .free ∧ (leftHead d parkDelay).timer = some ⟨.park, 0⟩) ↔
      ParksAtClear d parkDelay := by
  unfold ParksAtClear leftHead
  rcases slotAfterClear_eq_none_or d with hslot | hslot <;> cases hpending : d.declinePending <;>
    simp [hslot]

theorem State.clearHead_of_stays (hbusy : (s.heads.get h).state = .assigned ∨
    (s.heads.get h).state = .closed ∨ (s.heads.get h).state = .releasing)
    (hstays : ¬ ParksAtClear (s.heads.get h) s.press.parkDelay) :
    (s.clearHead h).heads.get h = leftHead (s.heads.get h) s.press.parkDelay ∧
      (s.clearHead h).thermal.get h =
        ⟨(s.thermal.get h).setpoint, ⟨false, 0, .dry, 0, .none, 1⟩⟩ := by
  obtain ⟨hthermal, -, -⟩ := leftAtClear_keeps (s := s) (h := h)
  have hpark : (leftAtClear s h).parkIfDue h = leftAtClear s h := by
    refine if_neg ?_
    rw [leftAtClear_head]
    exact mt (leftHead_due_iff _ _).mp hstays
  rw [State.clearHead_of_busy hbusy, hpark, State.endCycle_thermal, hthermal]
  exact ⟨leftAtClear_head, rfl⟩

/-- The class that a parking takes by the park policy (R142). -/
def parkClassOf (press : PressParams) (d : Head) : PassClass :=
  match press.parkPolicy with
  | .last => d.cls
  | .default_ => press.parkClass

/-- The setpoint that a parking takes with its class (R142). -/
def parkSetpointOf (press : PressParams) (pass : PerClass PassRow) (d : Head) (th : Thermal) : Nat :=
  if parkClassOf press d = d.cls then th.setpoint else (pass.get (parkClassOf press d)).defSetpoint

theorem State.parkNow_eq (s : State) (h : HeadId) :
    s.parkNow h =
      ((s.modifyHead h fun d =>
        { d with state := .parked, cls := parkClassOf s.press (s.heads.get h), timer := none }).modifyThermal
          h fun th =>
            { th with setpoint := parkSetpointOf s.press s.pass (s.heads.get h) (s.thermal.get h) }).post h
        (.park (parkClassOf s.press (s.heads.get h))
          (parkSetpointOf s.press s.pass (s.heads.get h) (s.thermal.get h))) := rfl

theorem State.clearHead_of_parks {c : PassClass} {sp : Nat} (hbusy : (s.heads.get h).state = .assigned ∨
    (s.heads.get h).state = .closed ∨ (s.heads.get h).state = .releasing)
    (hparks : ParksAtClear (s.heads.get h) s.press.parkDelay)
    (hc : parkClassOf s.press (s.heads.get h) = c)
    (hsp : parkSetpointOf s.press s.pass (s.heads.get h) (s.thermal.get h) = sp) :
    (s.clearHead h).heads.get h =
        { leftHead (s.heads.get h) s.press.parkDelay with
          state := .parked, cls := c, timer := none, mailbox := some (.park c sp) } ∧
      (s.clearHead h).thermal.get h = ⟨sp, ⟨false, 0, .dry, 0, .none, 1⟩⟩ := by
  obtain ⟨hthermal, hpress, hpass⟩ := leftAtClear_keeps (s := s) (h := h)
  have hpark : (leftAtClear s h).parkIfDue h = (leftAtClear s h).parkNow h := by
    refine if_pos ?_
    rw [leftAtClear_head]
    exact (leftHead_due_iff _ _).mpr hparks
  have hclass : parkClassOf (leftAtClear s h).press ((leftAtClear s h).heads.get h) = c := by
    rw [hpress, leftAtClear_head]
    exact hc
  have hsetpoint : parkSetpointOf (leftAtClear s h).press (leftAtClear s h).pass
      ((leftAtClear s h).heads.get h) ((leftAtClear s h).thermal.get h) = sp := by
    rw [hpress, hpass, hthermal, leftAtClear_head]
    exact hsp
  obtain ⟨-, hslot, -⟩ := hparks
  rw [State.clearHead_of_busy hbusy, hpark, State.endCycle_thermal, State.parkNow_eq, hclass, hsetpoint,
    State.post_thermal]
  refine ⟨?_, ?_⟩
  · change (State.post _ h _).heads.get h = _
    rw [State.post, State.head_setMailbox_self]
    simp only [State.modifyThermal, State.modifyHead, PerHead.get_modify_self, leftAtClear_head]
    simp only [leftHead, hslot]
    rfl
  · simp only [State.modifyThermal, PerHead.get_modify_self]

/-- What a LINE_CLEAR makes of a head's record and its press unit (R142, R146, R165). -/
def HeadCleared (press : PressParams) (pass : PerClass PassRow) (d : Head) (th : Thermal) (d' : Head)
    (th' : Thermal) : Prop :=
  (d.state ≠ .assigned → d.state ≠ .closed → d.state ≠ .releasing →
    d' = { d with late := false } ∧ th' = ⟨th.setpoint, ⟨false, 0, .dry, 0, .none, 1⟩⟩) ∧
  (d.state = .assigned ∨ d.state = .closed ∨ d.state = .releasing →
    (¬ ParksAtClear d press.parkDelay →
      d' = leftHead d press.parkDelay ∧ th' = ⟨th.setpoint, ⟨false, 0, .dry, 0, .none, 1⟩⟩) ∧
    (ParksAtClear d press.parkDelay →
      d' = { leftHead d press.parkDelay with
        state := .parked, cls := parkClassOf press d, timer := none,
        mailbox := some (.park (parkClassOf press d) (parkSetpointOf press pass d th)) } ∧
      th' = ⟨parkSetpointOf press pass d th, ⟨false, 0, .dry, 0, .none, 1⟩⟩))

theorem State.clearHead_cleared (s : State) (h : HeadId) :
    HeadCleared s.press s.pass (s.heads.get h) (s.thermal.get h) ((s.clearHead h).heads.get h)
      ((s.clearHead h).thermal.get h) :=
  ⟨State.clearHead_of_idle, fun hbusy =>
    ⟨State.clearHead_of_stays hbusy, fun hparks => State.clearHead_of_parks hbusy hparks rfl rfl⟩⟩

theorem State.clearHeads_cleared (s : State) (h : HeadId) :
    HeadCleared s.press s.pass (s.heads.get h) (s.thermal.get h)
      (((s.clearHead .h0).clearHead .h1).heads.get h) (((s.clearHead .h0).clearHead .h1).thermal.get h) := by
  cases h with
  | h0 =>
    obtain ⟨hhead, hthermal⟩ := (s.clearHead .h0).clearHead_ne (x := .h0) (h := .h1) nofun
    rw [hhead, hthermal]
    exact s.clearHead_cleared .h0
  | h1 =>
    have hrest := (HeadsOnly.clearHead (s := s) (h := .h0)).rest
    have hpress : (s.clearHead .h0).press = s.press := by rw [hrest]
    have hpass : (s.clearHead .h0).pass = s.pass := by rw [hrest]
    obtain ⟨hhead, hthermal⟩ := s.clearHead_ne (x := .h1) (h := .h0) nofun
    have hcleared := (s.clearHead .h0).clearHead_cleared .h1
    rwa [hpress, hpass, hhead, hthermal] at hcleared

/-! ## The notices (R180) -/

theorem State.raiseCleared_port (s : State) (q : Port) :
    s.raiseCleared.ports.get q =
      { s.ports.get q with
        notices := (s.ports.get q).notices.set (NoticeKind.lineCleared q).index
          ⟨true, packDetail [(8, s.lineClears)]⟩ } := by
  cases q <;> rfl

/-- The raising changes the ports alone. -/
theorem State.raiseCleared_rest (s : State) :
    s.raiseCleared = { s with ports := s.raiseCleared.ports } := rfl

/-! ## LINE_CLEAR -/

/-- The book, the counts, the platens and the beds cleared, and the lists empty. -/
def clearedBook (s : State) : State :=
  { cutBeds s.clearBook.clearCounts.clearPlatens with lists := ⟨[], [], [], []⟩ }

theorem State.lineClear_eq (s : State) :
    s.lineClear =
      ({ ((clearedBook s).clearHead .h0).clearHead .h1 with
        lineClears := (s.lineClears + 1) % 256 } : State).raiseCleared := by
  have hbeds := State.clearBeds_eq (s := s.clearBook.clearCounts.clearPlatens) (u := s) rfl
  simp only [State.lineClear, hbeds]
  rfl

/-- What a LINE_CLEAR makes of a port: LINE_CLEARED raised, and the rest kept but for the ASSIGNMENT
notices of the press port (R180). -/
def PortCleared (q : Port) (count : Nat) (ps ps' : PortState) : Prop :=
  ps'.notices.get (NoticeKind.lineCleared q).index = ⟨true, packDetail [(8, count)]⟩ ∧
    ps'.ext = ps.ext ∧ ps'.reply = ps.reply ∧ ps'.mask = ps.mask ∧
    ∀ j : Fin 8, (NoticeKind.lineCleared q).index ≠ j → ¬ (q = .press ∧ j < 2) →
      ps'.notices.get j = ps.notices.get j

/-- The clearing of the heads, and then the raising, at a port. -/
theorem HeadsOnly.portCleared {count : Nat} (hkept : HeadsOnly s t) (q : Port) :
    PortCleared q count (s.ports.get q) { t.ports.get q with
      notices := (t.ports.get q).notices.set (NoticeKind.lineCleared q).index
        ⟨true, packDetail [(8, count)]⟩ } := by
  refine ⟨Table.get_set_self .., ?_, ?_, ?_, fun j hj hslot => (Table.get_set_ne _ _ hj.symm).trans ?_⟩
  all_goals
    by_cases hq : q = .press
    case neg => rw [hkept.ports q hq]
  · exact hq ▸ hkept.ext
  · exact hq ▸ hkept.reply
  · exact hq ▸ hkept.mask
  · exact hq ▸ hkept.notices j fun hlow => hslot ⟨hq, hlow⟩

/-- A LINE_CLEAR's state: the cleared book with its heads cleared and its notices raised. -/
theorem State.lineClear_stages (s : State) :
    ∃ ports heads thermal,
      s.lineClear =
        { clearedBook s with
          lineClears := (s.lineClears + 1) % 256, ports := ports, heads := heads, thermal := thermal } ∧
      (∀ q, PortCleared q ((s.lineClears + 1) % 256) (s.ports.get q) (ports.get q)) ∧
      ∀ h, HeadCleared s.press s.pass (s.heads.get h) (s.thermal.get h) (heads.get h) (thermal.get h) := by
  have hkept : HeadsOnly (clearedBook s) (((clearedBook s).clearHead .h0).clearHead .h1) :=
    HeadsOnly.clearHead.trans .clearHead
  have hcleared := (clearedBook s).clearHeads_cleared
  have heq := s.lineClear_eq
  generalize ((clearedBook s).clearHead .h0).clearHead .h1 = v at *
  refine ⟨s.lineClear.ports, v.heads, v.thermal, ?_, fun q => ?_, hcleared⟩
  · refine (heq.trans (State.raiseCleared_rest _)).trans ?_
    rw [← heq]
    exact congrArg (fun u : State =>
      { u with lineClears := (s.lineClears + 1) % 256, ports := s.lineClear.ports }) hkept.rest
  · rw [heq, State.raiseCleared_port]
    exact hkept.portCleared q

end

theorem packWord_flag (b : Bool) : packWord [flag b] = if b then 1 else 0 := by cases b <;> rfl

/-- Settles O54: the stages of a LINE_CLEAR, each with what it leaves. -/
theorem closeCommissioningAndLineClear : Obligations.CloseCommissioningAndLineClear := by
  intro s hrecv
  refine ⟨?close, ?_⟩
  case close =>
    have hbody : bodyCloseCommissioning s =
        (⟨.ok, if s.commissioningOpen then 1 else 0⟩, { s with commissioningOpen := false }) := by
      rw [← packWord_flag]
      rfl
    exact takeFrame_answers hrecv rfl hbody
  intro count
  have hanswer : packWord [(8, count)] = BitVec.ofNat 32 count :=
    packWord_singleton (Nat.mod_lt _ (by decide))
  obtain ⟨ports, heads, thermal, heq, hports, hheads⟩ := s.lineClear_stages
  have hbody : bodyLineClear s = (⟨.ok, BitVec.ofNat 32 count⟩, s.lineClear) := by
    rw [← hanswer]
    rfl
  rw [heq] at hbody
  exact ⟨_, takeFrame_answers hrecv rfl hbody, rfl, rfl, fun i => Table.get_replicate _ i, rfl,
    fun p => Table.get_replicate _ p, rfl, rfl, rfl, fun a => Table.get_map _ a _,
    fun bed => by cases bed <;> rfl, rfl, State.cutAll_of_free (s := s.clearBook.clearCounts.clearPlatens),
    fun k => State.cutAll_of_sending (s := s.clearBook.clearCounts.clearPlatens),
    fun l => by cases l <;> rfl, rfl, rfl, rfl, rfl, rfl, rfl, rfl, rfl, rfl, rfl, rfl, rfl, hheads, hports⟩

/-! ## FULL_RESET -/

theorem resetPorts_get (t : PerPort PortState) (q : Port) :
    (resetPorts t).get q = (t.get q).afterReset q := by cases q <;> rfl

/-- Settles O55: the reset state with its ports, its store and the record of the link. -/
theorem fullReset : Obligations.FullReset := by
  intro cause s
  have hnotices (q : Port) (j : Fin 8) :
      (((s.fullReset cause).ports.get q).notices).get j = ⟨false, 0⟩ := by
    have hport : (s.fullReset cause).ports.get q = (s.ports.get q).afterReset q := resetPorts_get ..
    rw [hport]
    exact Table.get_replicate _ j
  refine ⟨s.fullReset cause, rfl, fun q => ?ports, rfl, rfl, rfl, fun p => Table.get_replicate _ p, rfl, rfl,
    rfl, fun a => ?artworks, fun i => Table.get_replicate _ i, rfl, fun side => by cases side <;> rfl, rfl,
    rfl, rfl, fun r => Table.get_replicate _ r, fun bed => by cases bed <;> rfl, rfl, State.cutAll_of_free,
    fun k => State.cutAll_of_sending, rfl, rfl, rfl, fun h => by cases h <;> exact ⟨rfl, rfl⟩,
    fun l => by cases l <;> rfl, rfl, rfl, ?pin, ?powerOn⟩
  case ports =>
    have hattention : (s.fullReset cause).attention q = false := by
      refine Bool.eq_false_iff.mpr fun hattention => ?_
      obtain ⟨k, hpending, -⟩ := State.attention_iff.mp hattention
      rw [hnotices] at hpending
      exact Bool.false_ne_true hpending
    have hport : (s.fullReset cause).ports.get q = (s.ports.get q).afterReset q := resetPorts_get ..
    refine ⟨?_, ?_, ?_, ?_, ?_, ?_, hnotices q, ?_, hattention⟩ <;> rw [hport]
    all_goals rfl
  case artworks =>
    have hfree : (s.fullReset cause).artworks.get a = Artwork.free := Table.get_replicate _ a
    exact ⟨hfree, by rw [hfree]; rfl, by rw [hfree]; rfl⟩
  case pin =>
    rintro rfl
    exact ⟨rfl, rfl⟩
  case powerOn =>
    rintro rfl
    exact ⟨rfl, rfl⟩

end Sys2Proof.Machine
end

section
/-! PROOF. CANCEL_LINE (R10, R28, R29, R144): the marking of the tickets as one table, the effect at each
station, and what those effects leave alone. -/

namespace Sys2Proof.Machine

open Sys2Proof

section
variable {s t u : State} {i : LineIx} {p : PlatenIx} {h : HeadId} {arg : Arg}

/-! ## What the stations and the Arbiter leave alone -/

/-- The ports, the platens' locations and the press apart, the part stands; no ticket is touched. -/
structure PressOnly (s t : State) : Prop where
  rest : t = { s with
    ports := t.ports, platens := t.platens, heads := t.heads, lists := t.lists, level1 := t.level1,
    level2 := t.level2, thermal := t.thermal }
  tickets : ∀ p, t.ticket p = s.ticket p

theorem PressOnly.trans (h1 : PressOnly s t) (h2 : PressOnly t u) : PressOnly s u :=
  ⟨h2.rest.trans (congrArg (fun v : State =>
      { v with
        ports := u.ports, platens := u.platens, heads := u.heads, lists := u.lists, level1 := u.level1,
        level2 := u.level2, thermal := u.thermal }) h1.rest),
    fun p => (h2.tickets p).trans (h1.tickets p)⟩

theorem PressOnly.records (s : State) (ports : PerPort PortState) (heads : PerHead Head)
    (lists : PerList (List PlatenIx)) (level1 : Level1) (level2 : Level2) (thermal : PerHead Thermal) :
    PressOnly s { s with
      ports := ports, heads := heads, lists := lists, level1 := level1, level2 := level2,
      thermal := thermal } :=
  ⟨rfl, fun _ => rfl⟩

theorem PressOnly.refl (s : State) : PressOnly s s := .records s ..

theorem PressOnly.setLocation {l : Location} : PressOnly s (s.setLocation p l) := by
  refine ⟨rfl, fun x => ?_⟩
  by_cases hx : x = p
  · subst hx
    have hrecord : (s.setLocation x l).platens.get x = { s.platens.get x with location := l } :=
      Table.get_modify_self ..
    rw [State.ticket, hrecord]
    rfl
  · exact congrArg Platen.ticket (Table.get_modify_ne _ _ hx)

theorem PressOnly.setMailbox {m : Option Assignment} : PressOnly s (s.setMailbox h m) := by
  cases m <;> exact .records ..

theorem PressOnly.post {m : Assignment} : PressOnly s (s.post h m) := .setMailbox

theorem PressOnly.grantOnce : PressOnly s s.grantOnce := by
  rcases State.grantOnce_cases s with heq | ⟨l, p, rest, h, -, -, -, heq⟩ <;> rw [heq]
  · exact .refl s
  · rw [State.grant_eq_afterGrant]
    refine .trans (.trans (PressOnly.setLocation (p := p) (l := .head h)) ?_) .post
    exact .records ..

theorem PressOnly.parkIfDue : PressOnly s (s.parkIfDue h) := by
  rcases State.parkIfDue_cases s h with heq | ⟨-, -, heq⟩ <;> rw [heq]
  · exact .refl s
  · rw [State.parkNow_eq]
    exact .trans (.records ..) .post

theorem PressOnly.settle : PressOnly s s.settle :=
  .trans (.trans (.trans .grantOnce .grantOnce) .parkIfDue) .parkIfDue

/-! ## The effect at a station (R29, R144) -/

/-- A head that waits for its opening after the RELEASE of a cancellation (R144). -/
def releasedByCancel (u : State) (h : HeadId) : State :=
  (u.modifyHead h fun x =>
    { x with state := .releasing, outcome := .transit,
             timer := some ⟨.release, u.press.releaseTimeout * 1000⟩ }).post h .release

theorem voidEffect_of_moving (hplace : u.location p = .loadZone ∨ u.location p = .transit) :
    u.voidEffect i p = u := by
  rcases hplace with hplace | hplace <;> simp only [State.voidEffect, hplace]

theorem voidEffect_of_pretreat
    (hplace : u.location p = .pretreatQueue ∨ u.location p = .pretreatSlot) :
    u.voidEffect i p = u.raise .voidedPretreat [(6, p.val), (2, 0), (8, i.val)] := by
  rcases hplace with hplace | hplace <;> simp only [State.voidEffect, hplace]

theorem voidEffect_of_print (hplace : u.location p = .printQueue ∨ ∃ bed, u.location p = .bed bed) :
    u.voidEffect i p = u.raise .voidedPrint [(6, p.val), (2, 0), (8, i.val)] := by
  rcases hplace with hplace | ⟨bed, hplace⟩ <;> simp only [State.voidEffect, hplace]

theorem voidEffect_of_rack {l : RackList} (hplace : u.location p = .rack l) :
    u.voidEffect i p =
      ({ u with lists := u.lists.set l ((u.lists.get l).erase p) }).setLocation p .transit := by
  simp only [State.voidEffect, State.voidAtPress, hplace]
  rfl

theorem voidEffect_of_assigned (hplace : u.location p = .head h)
    (hstate : (u.heads.get h).state = .assigned) (htaken : (u.heads.get h).closeOnTaken = false)
    (hplaten : (u.heads.get h).platen = some p) :
    u.voidEffect i p = freed ((u.setLocation p .transit).post h .release) h := by
  simp only [State.voidEffect, State.voidAtPress, hplace, hstate, htaken,
    State.sendPlaten_eq_goesBy hplaten, State.freeHead_eq_freed]
  rfl

theorem voidEffect_of_taken (hplace : u.location p = .head h)
    (hstate : (u.heads.get h).state = .assigned) (htaken : (u.heads.get h).closeOnTaken = true) :
    u.voidEffect i p = releasedByCancel u h := by
  simp only [State.voidEffect, State.voidAtPress, hplace, hstate, htaken]
  rfl

theorem voidEffect_of_closed (hplace : u.location p = .head h)
    (hstate : (u.heads.get h).state = .closed) :
    u.voidEffect i p =
      releasedByCancel { u with
        thermal := u.thermal.set h
          { u.thermal.get h with cycle := ⟨false, 0, .dry, 0, .none, 1⟩ } } h := by
  simp only [State.voidEffect, State.voidAtPress, hplace, hstate]
  rfl

theorem voidEffect_of_releasing (hplace : u.location p = .head h)
    (hstate : (u.heads.get h).state = .releasing) :
    u.voidEffect i p = u.modifyHead h fun x => { x with outcome := .transit } := by
  simp only [State.voidEffect, State.voidAtPress, hplace, hstate]

theorem PressOnly.sendPlaten : PressOnly s (s.sendPlaten h .transit) := by
  unfold State.sendPlaten
  split
  · exact .refl s
  · exact .setLocation

theorem PressOnly.voidAtPress : PressOnly s (s.voidAtPress p) := by
  unfold State.voidAtPress
  split
  · exact .trans (.records ..) .setLocation
  · split
    · rw [State.freeHead_eq_freed]
      exact .trans (.trans .sendPlaten .post) (.records ..)
    · exact .trans (.records ..) .post
    · exact .trans (.trans (.records ..) (.records ..)) .post
    · exact .records ..
    · exact .refl s
  · exact .refl s

theorem PressOnly.voidEffect : PressOnly s (s.voidEffect i p) := by
  unfold State.voidEffect
  split
  · exact .refl s
  · exact .refl s
  · exact .records ..
  · exact .records ..
  · exact .records ..
  · exact .records ..
  · exact .voidAtPress
  · exact .voidAtPress

theorem PressOnly.voidEffects (ps : List PlatenIx) : PressOnly s (ps.foldl (State.voidEffect i) s) := by
  induction ps generalizing s with
  | nil => exact .refl s
  | cons p ps ih => exact .trans .voidEffect ih

/-! ## The marking of the tickets (R28) -/

/-- A platen's record with its ticket made VOID. -/
def voidedPlaten (r : Platen) : Platen :=
  { r with ticket := r.ticket.map fun k => { k with disposition := .void } }

theorem voidedPlaten_idem (r : Platen) : voidedPlaten (voidedPlaten r) = voidedPlaten r := by
  cases r with
  | mk location ticket misroutes => cases ticket <;> rfl

theorem State.voidTickets_eq (s : State) (ps : List PlatenIx) :
    ps.foldl State.voidTicket s =
      { s with platens := Table.tabulate fun p =>
          if p ∈ ps then voidedPlaten (s.platens.get p) else s.platens.get p } := by
  induction ps generalizing s with
  | nil =>
    have hstands : (Table.tabulate fun p => s.platens.get p) = s.platens :=
      Table.ext_get fun p => Table.get_tabulate ..
    simp only [List.foldl_nil, List.not_mem_nil, if_false, hstands]
  | cons x ps ih =>
    rw [List.foldl_cons, ih]
    have htable : (Table.tabulate fun p =>
        if p ∈ ps then voidedPlaten ((s.voidTicket x).platens.get p) else (s.voidTicket x).platens.get p) =
        Table.tabulate fun p =>
          if p ∈ x :: ps then voidedPlaten (s.platens.get p) else s.platens.get p := by
      refine congrArg Table.tabulate (funext fun p => ?_)
      by_cases hp : p = x
      · subst hp
        have hvoided : (s.voidTicket p).platens.get p = voidedPlaten (s.platens.get p) :=
          Table.get_modify_self ..
        rw [hvoided, voidedPlaten_idem, ite_self, if_pos List.mem_cons_self]
      · have hkept : (s.voidTicket x).platens.get p = s.platens.get p := Table.get_modify_ne _ _ hp
        simp only [hkept, List.mem_cons, hp, false_or]
    rw [htable]
    rfl

theorem State.ticketNames_iff : s.ticketNames i p = true ↔ (s.ticket p).map Ticket.line = some i := by
  unfold State.ticketNames
  split
  · next hticket => simp [hticket]
  · next hticket => simp [hticket]

/-- The ticket of platen `p` is one that a cancellation of line `i` voids (R28). -/
def voidedBy (s : State) (i : LineIx) (p : PlatenIx) : Bool :=
  decide ((s.lines.get i).bound ≠ 0 ∧ p.val < s.params.platenCount ∧
    (s.ticket p).map Ticket.line = some i)

theorem platens_voided_eq (s : State) (i : LineIx) :
    (if (s.lines.get i).bound = 0 then [] else s.platensOfLine i) =
      (List.finRange 48).filter (voidedBy s i) := by
  split
  · next hbound => simp [voidedBy, hbound]
  · next hbound =>
    refine List.filter_congr fun p _ => Bool.eq_iff_iff.mpr ?_
    simp only [voidedBy, Bool.and_eq_true, decide_eq_true_eq, State.ticketNames_iff, hbound, ne_eq,
      not_false_eq_true, true_and]

/-- The line CANCELLED and its tickets VOID, before the stations act. -/
def markedCancelled (s : State) (i : LineIx) : State :=
  { s with
    lines := s.lines.set i { s.lines.get i with state := .cancelled }
    platens := Table.tabulate fun p =>
      if voidedBy s i p then
        { s.platens.get p with
          ticket := (s.ticket p).map fun k => { k with disposition := .void } }
      else s.platens.get p }

theorem markedCancelled_ticket :
    (markedCancelled s i).ticket p =
      if voidedBy s i p then (s.ticket p).map fun k => { k with disposition := .void }
      else s.ticket p := by
  have hrecord : (markedCancelled s i).platens.get p = _ := Table.get_tabulate ..
  rw [State.ticket, hrecord]
  split <;> rfl

theorem State.cancelLine_eq (s : State) (i : LineIx) :
    s.cancelLine i =
      let ps := (List.finRange 48).filter (voidedBy s i)
      if ps = [] then markedCancelled s i
      else (ps.foldl (State.voidEffect i) (markedCancelled s i)).settle := by
  have hmarked : ((List.finRange 48).filter (voidedBy s i)).foldl State.voidTicket
      (s.modifyLine i fun l => { l with state := .cancelled }) = markedCancelled s i := by
    rw [State.voidTickets_eq]
    simp only [List.mem_filter, List.mem_finRange, true_and]
    rfl
  simp only [State.cancelLine, platens_voided_eq, hmarked, List.isEmpty_iff]
  split
  · next hnone => rw [hnone, List.foldl_nil]
  · rfl

theorem State.cancelLine_kept (s : State) (i : LineIx) : PressOnly (markedCancelled s i) (s.cancelLine i) := by
  rw [State.cancelLine_eq]
  dsimp only
  split
  · exact .refl _
  · exact .trans (.voidEffects _) .settle

theorem bodyCancelLine_of_other (hnot : ¬ ((s.lines.get (lineAt arg 0)).state = .open_ ∨
    (s.lines.get (lineAt arg 0)).state = .full)) : bodyCancelLine arg s = (answer0 .badState, s) := by
  unfold bodyCancelLine
  dsimp only
  split
  · exact absurd (.inl ‹_›) hnot
  · exact absurd (.inr ‹_›) hnot
  · rfl

theorem bodyCancelLine_of_live (hlive : (s.lines.get (lineAt arg 0)).state = .open_ ∨
    (s.lines.get (lineAt arg 0)).state = .full) :
    bodyCancelLine arg s =
      (⟨.ok, BitVec.ofNat 32 ((List.finRange 48).filter (voidedBy s (lineAt arg 0))).length⟩,
        s.cancelLine (lineAt arg 0)) := by
  have hcount : ((List.finRange 48).filter (voidedBy s (lineAt arg 0))).length < 2 ^ 6 :=
    ((List.length_filter_le _ _).trans_eq List.length_finRange).trans_lt (by decide)
  have hnumber : (if (s.lines.get (lineAt arg 0)).bound = 0 then 0
      else (s.platensOfLine (lineAt arg 0)).length) =
      ((List.finRange 48).filter (voidedBy s (lineAt arg 0))).length := by
    rw [← platens_voided_eq]
    split <;> rfl
  rw [← packWord_singleton (w := 6) hcount]
  rcases hlive with hlive | hlive <;> simp only [bodyCancelLine, hlive, hnumber] <;> rfl

end

/-- Settles O16: the tickets are marked as one table; the stations and the Arbiter touch no ticket, and
nothing but the press, the locations and the notices. -/
theorem cancelLine : Obligations.CancelLine := by
  refine ⟨fun arg s hrecv => ?command, fun i u p => ?station⟩
  case command =>
    intro i l
    refine ⟨fun hnot => takeFrame_answers hrecv rfl (bodyCancelLine_of_other hnot), fun hlive => ?_⟩
    intro named ps marked
    have hexec : exec (.cancelLine arg) s =
        .next ((s.cancelLine i).finish .order ⟨.ok, BitVec.ofNat 32 ps.length⟩ none) :=
      takeFrame_answers hrecv rfl (bodyCancelLine_of_live hlive)
    refine ⟨State.cancelLine_eq s i ▸ hexec, _, hexec, ?_⟩
    obtain ⟨hrest, htickets⟩ := s.cancelLine_kept i
    have hticket (p : PlatenIx) : (s.cancelLine i).ticket p = _ := (htickets p).trans markedCancelled_ticket
    refine ⟨?reply, ?_⟩
    case reply => simp
    generalize s.cancelLine i = v at *
    refine ⟨?_, ?_, ?_, ?_, ?_, ?_, ?_, ?_, ?_, ?_, ?_, ?_, ?_, ?_, ?_, ?_, hticket⟩ <;>
      (rw [hrest]; rfl)
  case station =>
    intro detail
    refine ⟨voidEffect_of_moving, voidEffect_of_pretreat, voidEffect_of_print,
      fun l hplace => voidEffect_of_rack hplace, fun h hplace => ?_⟩
    exact ⟨voidEffect_of_assigned hplace, voidEffect_of_taken hplace, voidEffect_of_closed hplace,
      voidEffect_of_releasing hplace⟩

end Sys2Proof.Machine
end
